-- ==== Sys2Proof/Word.lean ====
section
/-! DEFINITION. The widths of the block: bytes, counters, ticks, pulse widths, and the fixed-size groups of them.

Every stored value is unsigned (spec/00_scope.md R13). -/

namespace Sys2Proof

/-- A byte: 8 bits, unsigned (spec/00_scope.md R13). -/
abbrev Byte := BitVec 8

/-- A counter, and the width of `LEN`, `CONSUMED` and `POS`: 13 bits (spec/00_scope.md R11). -/
abbrev Count := BitVec 13

/-- A raw channel value before conversion: 11 bits (spec/00_scope.md R8). -/
abbrev Tick := BitVec 11

/-- A pulse width in microseconds as `CH[k]` stores it: 12 bits (spec/10_state.md R25). -/
abbrev Pulse := BitVec 12

/-- A channel index, counted from 0 (spec/10_state.md R25). -/
abbrev Channel := Fin 16

/-- The 22 payload bytes of a channel-data frame (spec/00_scope.md R8). -/
abbrev Payload := Vector Byte 22

/-- The sixteen channel registers `CH[0..15]` (spec/10_state.md R25). -/
abbrev Channels := Vector Pulse 16

/-- A host command as it is presented to the block: the 3-bit command code and, out of band, the operand bytes in
stream order (spec/30_encoding.md R58, R63). -/
structure CommandWord where
  cmd : BitVec 3
  operand : List Byte
  deriving DecidableEq, Repr

end Sys2Proof
end

