-- ==== Sys2Proof/Config.lean ====
section
/-! DEFINITION. The constants of the block, its two parameters, and the values the spec leaves unspecified.

The numbers are spec/00_scope.md R3 to R10. The two constants the source never numbers (R6, R7) are the fields of `Params`,
which `State` carries, so that a statement about every state holds for every value of them. -/

namespace Sys2Proof

namespace Config

/-- `CAP`, the capacity of the buffer in bytes (spec/00_scope.md R3). -/
def cap : Nat := 4096

/-- `LEN_MIN`, the smallest legal length byte (spec/00_scope.md R4). -/
def lenMin : Nat := 2

/-- `LEN_MAX`, the largest legal length byte (spec/00_scope.md R4). -/
def lenMax : Nat := 62

/-- `RC_PAYLOAD`, the payload size of a channel-data frame (spec/00_scope.md R8). -/
def rcPayload : Nat := 22

/-- `FIELD_W`, the width of one packed field in bits (spec/00_scope.md R8). -/
def fieldW : Nat := 11

/-- `CRC_POLY`, the generator without its x^8 term (spec/00_scope.md R9). -/
def crcPoly : Byte := 0xD5

/-- `CRC_INIT` (spec/00_scope.md R9). -/
def crcInit : Byte := 0x00

/-- `CRC_XOROUT` (spec/00_scope.md R9, decision D5). -/
def crcXorOut : Byte := 0x00

/-- `TICK_CENTER` (spec/00_scope.md R10). -/
def tickCenter : Int := 992

/-- `US_CENTER` (spec/00_scope.md R10). -/
def usCenter : Int := 1500

/-- `SCALE_NUM` (spec/00_scope.md R10). -/
def scaleNum : Int := 5

/-- `SCALE_DEN` (spec/00_scope.md R10). -/
def scaleDen : Int := 8

/-- FREE VALUE (assumption 3). What `CH[k]` holds while it is unspecified: the draw numbered by the first argument, one
value a channel. It has no body, so nothing can be proved of a value of it (spec/93_implementation_defined.md U1, U2). -/
opaque freeChannel : Nat → Channel → Pulse

/-- FREE VALUE (assumption 4). What `CRC_OUT` holds after reset, before any CRC8 command
(spec/93_implementation_defined.md U3). -/
opaque freeCrc : Nat → Byte

end Config

/-- The two constants that the source names and never numbers (spec/00_scope.md R6, R7; spec/70_reset_and_hazards.md R176:
a model must take them as parameters). Fixed before reset and never changed (R162). -/
structure Params where
  /-- `ADDR_FC`, the one accepted address byte. -/
  addrFc : Byte
  /-- `TYPE_RC`, the one type tag whose payload is decoded. -/
  typeRc : Byte
  deriving DecidableEq, Repr

/-- The defaults of the two parameters. PRESUMED (assumption 1): the spec itself takes them from general knowledge
(spec/93_implementation_defined.md G1, G2). -/
def Params.default : Params := { addrFc := 0xC8, typeRc := 0x16 }

end Sys2Proof
end

