-- ==== Sys2Proof/Syntax.lean ====
section
/-! DEFINITION. The instructions: one constructor for each row of spec/opcode_table.json.

The first eight are the host's commands (format CMD, spec/30_encoding.md R58, R59). The last six are the classes a position of
the scan falls into (format FRAME, spec/30_encoding.md R55): the moves of SCAN's own STEP. A class carries the bytes of its
row that no other field fixes: an address byte of `ADDR_FC` and a length byte of `|payload| + 2` are not written again. -/

namespace Sys2Proof

/-- The operations of the block and the classes of a scan position. -/
inductive Instr where
  /-- `IDLE` (spec/40_reassembly_buffer.md R70). -/
  | idle
  /-- `FEED chunk` (spec/40_reassembly_buffer.md R71). -/
  | feed (chunk : List Byte)
  /-- `SCAN` (spec/41_frame_decoder.md R95). -/
  | scan
  /-- `CLEAR` (spec/40_reassembly_buffer.md R78). -/
  | clear
  /-- `UNPACK p` (spec/42_channel_unpacker.md R120). -/
  | unpack (p : List Byte)
  /-- `CRC8 s` (spec/41_frame_decoder.md R93). -/
  | crc8 (s : List Byte)
  /-- Command code `110`, with the operand that is ignored (spec/30_encoding.md R59). -/
  | reserved110 (operand : List Byte)
  /-- Command code `111`, with the operand that is ignored (spec/30_encoding.md R59). -/
  | reserved111 (operand : List Byte)
  /-- A position whose first byte `a` is not `ADDR_FC` (spec/41_frame_decoder.md R98). -/
  | addrReject (a : Byte)
  /-- A position with the right address and a length byte `l` outside 2 to 62 (spec/41_frame_decoder.md R99). -/
  | lenReject (l : Byte)
  /-- A position that declares a frame longer than the bytes available (spec/41_frame_decoder.md R100). -/
  | wait (l : Byte)
  /-- A complete candidate of type `t`, payload `p` and trailing byte `c` whose CRC differs from `c`
  (spec/41_frame_decoder.md R102). -/
  | badCrc (t : Byte) (p : List Byte) (c : Byte)
  /-- A valid channel-data frame with payload `p` and crc byte `c` (spec/41_frame_decoder.md R104). -/
  | rcChannels (p : Payload) (c : Byte)
  /-- A valid frame that is not a channel-data frame (spec/41_frame_decoder.md R104). -/
  | validIgnored (t : Byte) (p : List Byte) (c : Byte)
  deriving DecidableEq, Repr

end Sys2Proof
end

