-- ==== Sys2Proof/WellFormed.lean ====
section
/-! DEFINITION. Which terms of `Instr` stand for an encoding: the constraint column of each row of spec/opcode_table.json.

A command is always well formed. A position class is well formed when its bytes satisfy the condition of
spec/30_encoding.md R55 that selects the class, as far as they decide it without the bytes that follow. -/

namespace Sys2Proof

/-- A length byte in the legal range (spec/00_scope.md R4). -/
def legalLength (l : Byte) : Bool := decide (Config.lenMin ≤ l.toNat ∧ l.toNat ≤ Config.lenMax)

/-- A payload whose length byte, `|p| + 2`, is at most `LEN_MAX` (spec/30_encoding.md R51). -/
def legalPayload (p : List Byte) : Bool := decide (p.length + 2 ≤ Config.lenMax)

/-- The constraint of each row, for the parameters `c` (spec/30_encoding.md R55; opcode_table.json, "constraint"). -/
def Instr.wellFormed (c : Params) : Instr → Bool
  | .idle => true
  | .feed _ => true
  | .scan => true
  | .clear => true
  | .unpack _ => true
  | .crc8 _ => true
  | .reserved110 _ => true
  | .reserved111 _ => true
  | .addrReject a => a != c.addrFc
  | .lenReject l => !legalLength l
  -- A declared length of 2 is a 4-byte frame and never waits (spec/41_frame_decoder.md R100).
  | .wait l => legalLength l && l != 2
  | .badCrc t p r => legalPayload p && Sys2Proof.crc8 (t :: p) != r
  | .rcChannels p r => Sys2Proof.crc8 (c.typeRc :: p.toList) == r
  | .validIgnored t p r =>
      legalPayload p && Sys2Proof.crc8 (t :: p) == r && (t != c.typeRc || p.length != Config.rcPayload)

end Sys2Proof
end

