-- ==== Sys2Proof/Decode.lean ====
section
/-! DEFINITION. Decoding and encoding: command words (spec/30_encoding.md R58, R59, R63) and scan positions (R50 to R57).

The two encodings never meet on the machine: command words come from the host, position bytes from the buffer. Both decoders are
total. After the decoders stand the encoders, written from the same tables. -/

namespace Sys2Proof

/-- Why a command word is no encoding of an instruction. -/
inductive DecodeError where
  /-- The command takes no operand and the word carries one (spec/30_encoding.md R58, R60; assumption 11). -/
  | operandNotTaken (mnemonic : String)
  deriving DecidableEq, Repr

/-- `i` when the word carries no operand, else the rejection by name. -/
def withoutOperand (w : CommandWord) (mnemonic : String) (i : Instr) : Except DecodeError Instr :=
  if w.operand = [] then .ok i else .error (.operandNotTaken mnemonic)

/-- The instruction a command word stands for (spec/30_encoding.md R58, R59). -/
def decodeCommand (w : CommandWord) : Except DecodeError Instr :=
  match w.cmd with
  | 0b000 => withoutOperand w "IDLE" .idle
  | 0b001 => .ok (.feed w.operand)
  | 0b010 => withoutOperand w "SCAN" .scan
  | 0b011 => withoutOperand w "CLEAR" .clear
  | 0b100 => .ok (.unpack w.operand)
  | 0b101 => .ok (.crc8 w.operand)
  | 0b110 => .ok (.reserved110 w.operand)
  | 0b111 => .ok (.reserved111 w.operand)

/-- What a position of the scan is: the six classes of spec/30_encoding.md R55, with the fields of `Instr`'s constructors of
the same names. -/
inductive Position where
  | addrReject (a : Byte)
  | lenReject (l : Byte)
  | wait (l : Byte)
  | badCrc (t : Byte) (p : List Byte) (c : Byte)
  | rcChannels (p : Payload) (c : Byte)
  | validIgnored (t : Byte) (p : List Byte) (c : Byte)
  deriving DecidableEq, Repr

/-- The instruction of a position's class. -/
def Position.toInstr : Position → Instr
  | .addrReject a => .addrReject a
  | .lenReject l => .lenReject l
  | .wait l => .wait l
  | .badCrc t p c => .badCrc t p c
  | .rcChannels p c => .rcChannels p c
  | .validIgnored t p c => .validIgnored t p c

/-- The numeric code of the class (spec/60_exceptions.md R141, decision D18). -/
def Position.causeCode : Position → Nat
  | .addrReject _ => 1
  | .lenReject _ => 2
  | .wait _ => 3
  | .badCrc .. => 4
  | .rcChannels .. => 5
  | .validIgnored .. => 6

/-- How far the cursor moves (spec/60_exceptions.md R141), none where the scan ends. -/
def Position.advance : Position → Option Nat
  | .addrReject _ => some 1
  | .lenReject _ => some 1
  | .wait _ => none
  | .badCrc .. => some 1
  | .rcChannels .. => some 26
  | .validIgnored _ p _ => some (p.length + 4)

/-- The class of a complete candidate: type `t`, payload `p`, trailing byte `r` (spec/41_frame_decoder.md R101 to R104). The
payload is exactly 22 bytes when the length byte is 24 (spec/30_encoding.md R53). -/
def decodeCandidate (c : Params) (t : Byte) (p : List Byte) (r : Byte) : Position :=
  if crc8 (t :: p) ≠ r then .badCrc t p r
  else if h : t = c.typeRc ∧ p.length = 22 then .rcChannels ⟨p.toArray, by simpa using h.2⟩ r
  else .validIgnored t p r

/-- The class of the position whose bytes, from the cursor to the end of the buffer, are given; none when fewer than 4
remain (spec/41_frame_decoder.md R96 to R104, tests in the order of spec/60_exceptions.md R143). -/
def decodePosition (c : Params) : List Byte → Option Position
  | a :: l :: t :: x :: more =>
      if a ≠ c.addrFc then some (.addrReject a)
      else if l.toNat < Config.lenMin ∨ Config.lenMax < l.toNat then some (.lenReject l)
      else if more.length + 4 < l.toNat + 2 then some (.wait l)
      else some (decodeCandidate c t ((x :: more).take (l.toNat - 2)) ((x :: more).getD (l.toNat - 2) 0))
  | _ => none

/-- The bytes of a frame: address, length, type, payload, crc (spec/30_encoding.md R50, R51). -/
def frameBytes (c : Params) (t : Byte) (p : List Byte) (r : Byte) : List Byte :=
  c.addrFc :: BitVec.ofNat 8 (p.length + 2) :: t :: (p ++ [r])

/-- The bytes that a position class fixes at the cursor (opcode_table.json, rows of format FRAME). -/
def encodePosition (c : Params) : Position → List Byte
  | .addrReject a => [a]
  | .lenReject l => [c.addrFc, l]
  | .wait l => [c.addrFc, l]
  | .badCrc t p r => frameBytes c t p r
  | .rcChannels p r => frameBytes c c.typeRc p.toList r
  | .validIgnored t p r => frameBytes c t p r

/-- The encoding of an instruction: a command word, or the bytes at a position. -/
inductive Encoding where
  | command (w : CommandWord)
  | stream (bytes : List Byte)
  deriving DecidableEq, Repr

/-- The encoding of every instruction. -/
def encode (c : Params) : Instr → Encoding
  | .idle => .command ⟨0b000, []⟩
  | .feed chunk => .command ⟨0b001, chunk⟩
  | .scan => .command ⟨0b010, []⟩
  | .clear => .command ⟨0b011, []⟩
  | .unpack p => .command ⟨0b100, p⟩
  | .crc8 s => .command ⟨0b101, s⟩
  | .reserved110 o => .command ⟨0b110, o⟩
  | .reserved111 o => .command ⟨0b111, o⟩
  | .addrReject a => .stream (encodePosition c (.addrReject a))
  | .lenReject l => .stream (encodePosition c (.lenReject l))
  | .wait l => .stream (encodePosition c (.wait l))
  | .badCrc t p r => .stream (encodePosition c (.badCrc t p r))
  | .rcChannels p r => .stream (encodePosition c (.rcChannels p r))
  | .validIgnored t p r => .stream (encodePosition c (.validIgnored t p r))

/-- The bytes of the number `w` of `n` bytes, the first byte the most significant (opcode_table.json, "match_over"). -/
def tableBytes : Nat → Nat → List Byte
  | 0, _ => []
  | n + 1, w => BitVec.ofNat 8 (w >>> (8 * n)) :: tableBytes n w

/-- The position bytes that a table word of `nbits` bits stands for (assumption 7): the word's own bytes; then, where it goes as far as
the type byte and its header declares a longer frame, payload bytes of zero and the crc byte that the frame's type and payload have;
else zeros up to the 4 bytes a position needs (so a word of two bytes, the rows LEN_REJECT and WAIT, stays a frame cut short). -/
def tableStream (nbits w : Nat) : List Byte :=
  let h := tableBytes ((nbits + 7) / 8) w
  let l := h.getD 1 0
  if legalLength l && decide (3 ≤ h.length ∧ h.length < l.toNat + 2) then
    let body := h ++ List.replicate (l.toNat + 1 - h.length) 0
    body ++ [crc8 (body.drop 2)]
  else h ++ List.replicate (4 - h.length) 0

/-- What a table word is: up to 8 bits with the bits above the command code zero, a command word with no operand; anything else
the bytes at a position (assumption 7). -/
def tableEncoding (nbits w : Nat) : Encoding :=
  if nbits ≤ 8 ∧ w < 8 then .command ⟨BitVec.ofNat 3 w, []⟩ else .stream (tableStream nbits w)

/-- The instruction the decoder reads from an encoding, none where it refuses. -/
def decodeEncoding (c : Params) : Encoding → Option Instr
  | .command w => (decodeCommand w).toOption
  | .stream bytes => (decodePosition c bytes).map Position.toInstr

/-- The instruction the decoder reads from a word numbered as spec/opcode_table.json numbers it, for the default parameters
that the table's own literal bits assume. -/
def decodeTableWord (nbits w : Nat) : Option Instr :=
  decodeEncoding Params.default (tableEncoding nbits w)

end Sys2Proof
end

