-- ==== Sys2Proof/Machine/State.lean ====
section
/-! DEFINITION. The state of the block (spec/10_state.md), its reset value, and the reasons a step can stop. -/

namespace Sys2Proof.Machine

/-- Why an operation was refused: the closed list of spec/60_exceptions.md R147. -/
inductive Reason where
  /-- UNPACK of fewer than 22 bytes. -/
  | insufficientData
  /-- A reserved command code. -/
  | reservedCommand
  /-- CONSUME past the end of the buffer, as a function of the model; SCAN never reaches it. -/
  | consumePastEnd
  deriving DecidableEq, Repr

/-- `STATUS`, the result every operation returns (spec/10_state.md R27). -/
inductive Status where
  | ok
  | refused (why : Reason)
  deriving DecidableEq, Repr

/-- What the host does to the block: it applies reset, or it presents one command word (spec/30_encoding.md R58, R60;
spec/70_reset_and_hazards.md R160). -/
inductive HostEvent where
  | reset
  | issue (w : CommandWord)
  deriving DecidableEq, Repr

/-- The buffer `BUF` (spec/10_state.md R20, spec/20_memory.md R35): the bytes at the offsets 0, 1, ... in order, the oldest
first. An offset from `LEN` on holds nothing, so the list is its own canonical form (assumption 2). -/
abbrev Memory := List Byte

/-- The bound of the buffer (spec/10_state.md R20). -/
def Memory.wf (m : Memory) : Bool := decide (m.length ≤ Config.cap)

/-- The buffer as address and byte pairs, from address `a` up: every listed offset with its byte. -/
def Memory.cells (a : Nat) : Memory → List Host.Cell
  | [] => []
  | b :: m => (a, b) :: Memory.cells (a + 1) m

/-- The whole state of the block. -/
structure State where
  /-- `ADDR_FC` and `TYPE_RC`, fixed before reset and never changed (spec/70_reset_and_hazards.md R162). -/
  params : Params
  /-- `BUF` (R20); `LEN` is its length (R21). -/
  buf : Memory
  /-- `N_SEEN` (R23). -/
  nSeen : Count
  /-- `N_VALID` (R23). -/
  nValid : Count
  /-- `N_ADDR_REJ` (R23). -/
  nAddrRej : Count
  /-- `N_BAD_CRC` (R23). -/
  nBadCrc : Count
  /-- `N_RC` (R23). -/
  nRc : Count
  /-- `FRESH` (R24). -/
  fresh : Bool
  /-- `CH[0..15]` (R25). While the spec leaves them unspecified they hold a free draw (assumption 3). -/
  ch : Channels
  /-- `STATUS` (R27). -/
  status : Status
  /-- `DROPPED` (R27). -/
  dropped : Nat
  /-- `CONSUMED` (R27). -/
  consumed : Count
  /-- `CRC_OUT` (R27). -/
  crcOut : Byte
  /-- `POS`, the scan cursor: it exists only while a SCAN is in progress (R22; assumption 5). -/
  cursor : Option Count
  /-- The model's own field: what the host will do next, in order (assumption 6). -/
  trace : List HostEvent
  /-- The model's own field: how many free draws have been made (assumption 3). -/
  drawn : Nat
  deriving DecidableEq, Repr

/-- The block raises no exception and takes no trap (spec/60_exceptions.md R140): there is no reason for a fault, and no step
ends in one (assumption 17). -/
inductive Fault
  deriving DecidableEq, Repr

/-- Why a step has no meaning. -/
inductive Refusal where
  /-- An instruction with no meaning yet; raised by `exec` alone. Safe: nothing is claimed of it. -/
  | notModelled (mnemonic : String)
  /-- Raised by `step` on a command word that is no encoding (spec/30_encoding.md R58, R60; assumption 11). Safe: the model stops
  where the spec gives no operation. -/
  | undecodable (why : DecodeError)
  /-- Raised by a host command while a SCAN is in progress (spec/93_implementation_defined.md U9: refuse; assumption 10). Safe: the
  model has no such move. -/
  | operationInProgress
  /-- Raised by a position class while no SCAN is in progress: a STEP exists only inside SCAN (spec/30_encoding.md R64;
  assumption 10). Safe: the model has no such move. -/
  | noScanInProgress
  /-- Raised by the end of a scan whose cursor is past the buffer's end, the refusal of CONSUME
  (spec/40_reassembly_buffer.md R77; assumption 9). Safe: no run reaches it. -/
  | consumePastEnd
  deriving DecidableEq, Repr

/-- What a step answers. -/
abbrev Result := Host.Outcome State Fault Refusal

/-- The free draw numbered `n`, one value for each channel (assumption 3). -/
def drawChannels (n : Nat) : Channels := Vector.ofFn (Config.freeChannel n)

/-- The reset table of spec/10_state.md R33 for given parameters; the draw numbered `n` stands for the unspecified registers. -/
def resetWith (c : Params) (n : Nat) : State where
  params := c
  buf := []
  nSeen := 0
  nValid := 0
  nAddrRej := 0
  nBadCrc := 0
  nRc := 0
  fresh := false
  ch := drawChannels n
  status := .ok
  dropped := 0
  consumed := 0
  crcOut := Config.freeCrc n
  cursor := none
  trace := []
  drawn := n + 1

/-- The state right after reset (spec/10_state.md R30 to R33), with the default parameters. -/
def State.reset : State := resetWith Params.default 0

end Sys2Proof.Machine
end

