-- ==== Sys2Proof/Machine/Operands.lean ====
section
/-! DEFINITION. The payload and its fields: what UNPACK reads from its operand and computes from it (spec/42_channel_unpacker.md),
and the packing used to make test payloads (spec/95_test_vectors.md section 4). -/

namespace Sys2Proof.Machine

/-- The first 22 bytes of a sequence, none when there are fewer (spec/42_channel_unpacker.md R127; assumption 12). -/
def payloadOf (p : List Byte) : Option Payload :=
  if h : 22 ≤ p.length then some ⟨(p.take 22).toArray, by simpa using h⟩ else none

/-- The 24-bit window of channel `k`: two bytes, or three where the field reaches the third
(spec/42_channel_unpacker.md R121, R122). -/
def window (p : Payload) (k : Channel) : BitVec 24 :=
  let i := 11 * k.val / 8
  let o := 11 * k.val % 8
  let low := (p[i]'(by omega)).setWidth 24 + 256 * (p[i + 1]'(by omega)).setWidth 24
  if h : 6 ≤ o then low + 65536 * (p[i + 2]'(by omega)).setWidth 24 else low

/-- `EXTRACT(p, k)`, the 11-bit tick of channel `k` (spec/42_channel_unpacker.md R121). -/
def extract (p : Payload) (k : Channel) : Tick :=
  ((window p k >>> (11 * k.val % 8)) &&& 0x7FF).setWidth 11

/-- `TICKS2US(t)` as an integer, division truncating toward zero (spec/42_channel_unpacker.md R123, R124). -/
def ticksToMicros (t : Tick) : Int :=
  Int.tdiv (((t.toNat : Int) - Config.tickCenter) * Config.scaleNum) Config.scaleDen + Config.usCenter

/-- `TICKS2US(t)` as `CH[k]` stores it (spec/42_channel_unpacker.md R123; spec/10_state.md R25). -/
def ticksToUs (t : Tick) : Pulse := BitVec.ofInt 12 (ticksToMicros t)

/-- The sixteen values UNPACK computes (spec/42_channel_unpacker.md R120, R129). -/
def unpackChannels (p : Payload) : Channels := Vector.ofFn fun k => ticksToUs (extract p k)

/-- A byte sequence as one little-endian integer (spec/20_memory.md R37). -/
def littleEndian : List Byte → Nat
  | [] => 0
  | b :: bs => b.toNat + 256 * littleEndian bs

/-- The tick values as one integer, channel 0 in the lowest bits (spec/95_test_vectors.md section 4, PACK). -/
def ticksInteger : List Tick → Nat
  | [] => 0
  | t :: ts => t.toNat + 2 ^ Config.fieldW * ticksInteger ts

/-- `PACK(t)`: the payload whose fields are the given ticks (spec/95_test_vectors.md section 4; a test aid, not an operation of the
block). -/
def packTicks (t : Vector Tick 16) : Payload :=
  Vector.ofFn fun j => BitVec.ofNat 8 (ticksInteger t.toList >>> (8 * j.val))

end Sys2Proof.Machine
end

