-- ==== Sys2Proof/Machine/Flags.lean ====
section
/-! DEFINITION. The parse outcome: the five counters, FRESH and the channel registers, and how each event changes them
(spec/10_state.md R23, R24, R25; spec/60_exceptions.md R141). -/

namespace Sys2Proof.Machine

/-- The entry actions of SCAN on the outcome: counters and FRESH zero, CH unspecified (spec/41_frame_decoder.md R95). -/
def State.clearOutcome (s : State) : State :=
  { s with
    nSeen := 0, nValid := 0, nAddrRej := 0, nBadCrc := 0, nRc := 0
    fresh := false, ch := drawChannels s.drawn, drawn := s.drawn + 1 }

/-- `N_ADDR_REJ + 1` (spec/41_frame_decoder.md R98). -/
def State.countAddrRej (s : State) : State := { s with nAddrRej := s.nAddrRej + 1 }

/-- `N_SEEN + 1` (spec/41_frame_decoder.md R101). -/
def State.countSeen (s : State) : State := { s with nSeen := s.nSeen + 1 }

/-- `N_BAD_CRC + 1` (spec/41_frame_decoder.md R102). -/
def State.countBadCrc (s : State) : State := { s with nBadCrc := s.nBadCrc + 1 }

/-- `N_VALID + 1` (spec/41_frame_decoder.md R103). -/
def State.countValid (s : State) : State := { s with nValid := s.nValid + 1 }

/-- `N_RC + 1` (spec/41_frame_decoder.md R104). -/
def State.countRc (s : State) : State := { s with nRc := s.nRc + 1 }

/-- All sixteen channels written together and FRESH set (spec/42_channel_unpacker.md R120; spec/41_frame_decoder.md R104). -/
def State.deliver (s : State) (p : Payload) : State := { s with ch := unpackChannels p, fresh := true }

end Sys2Proof.Machine
end

