-- ==== Sys2Proof/Machine/Ops.lean ====
section
/-! DEFINITION. The operations over the buffer, the cursor and the results that the meanings share.

The block takes no exception (spec/60_exceptions.md R140). What stands in for taking one is a reject, a one-byte advance of the cursor
with nothing saved (R144: `State.moveCursor` by 1), and a refusal, `STATUS` with a reason and nothing else (R147: `State.refuse`). -/

namespace Sys2Proof.Machine

/-- `LEN` (spec/10_state.md R21). -/
def State.len (s : State) : Count := BitVec.ofNat 13 s.buf.length

/-- `BUF[i]`, none where nothing is held (spec/20_memory.md R35). -/
def State.readByte (s : State) (i : Nat) : Option Byte := s.buf[i]?

/-- `MemRead(off, n)`, defined only inside the buffer (spec/20_memory.md R36). -/
def Memory.read (m : Memory) (off n : Nat) : Option (List Byte) :=
  if off + n ≤ m.length then some ((m.drop off).take n) else none

/-- `last(k, s)`, the last `min(k, |s|)` elements (spec/00_scope.md R13). -/
def lastBytes (k : Nat) (s : List Byte) : List Byte := s.drop (s.length - min k s.length)

/-- `max(0, n − CAP)`: how many of `n` bytes do not fit (spec/40_reassembly_buffer.md R71). -/
def overflow (n : Nat) : Nat := n - min n Config.cap

/-- The bytes a FEED of `chunk` cuts from the chunk's own front (spec/40_reassembly_buffer.md R72). -/
def cutFromChunk (chunk : List Byte) : Nat := overflow chunk.length

/-- The bytes a FEED of `chunk` evicts from the buffer's front (spec/40_reassembly_buffer.md R73). -/
def evictedBy (m : Memory) (chunk : List Byte) : Nat :=
  overflow (m.length + (chunk.drop (cutFromChunk chunk)).length)

/-- The buffer after a FEED (spec/40_reassembly_buffer.md R71). -/
def Memory.feed (m : Memory) (chunk : List Byte) : Memory :=
  m.drop (evictedBy m chunk) ++ chunk.drop (cutFromChunk chunk)

/-- `CONSUME n` as a function: the prefix removed, refused where it would pass the end (spec/40_reassembly_buffer.md R76, R77;
assumption 9). -/
def Memory.consume (m : Memory) (n : Nat) : Except Reason Memory :=
  if n ≤ m.length then .ok (m.drop n) else .error .consumePastEnd

/-- `STATUS <- refused(why)`, nothing else (spec/60_exceptions.md R147). -/
def State.refuse (s : State) (why : Reason) : State := { s with status := .refused why }

/-- `STATUS <- ok`. -/
def State.succeed (s : State) : State := { s with status := .ok }

/-- `CH[k]` as the host may read it: it has a value only while `FRESH = 1` (spec/10_state.md R25; assumption 14). -/
def State.readChannel (s : State) (k : Channel) : Option Pulse := if s.fresh then some s.ch[k] else none

/-- A host command: it runs when no SCAN is in progress (spec/20_memory.md R43; assumption 10). -/
def State.atRest (s : State) (run : Result) : Result :=
  match s.cursor with
  | none => run
  | some _ => .refused .operationInProgress

/-- A STEP: it runs at the cursor of the SCAN in progress (spec/30_encoding.md R64; assumption 10). -/
def State.atCursor (s : State) (run : Count → Result) : Result :=
  match s.cursor with
  | none => .refused .noScanInProgress
  | some pos => run pos

/-- `POS <- pos + n` (spec/10_state.md R22). -/
def State.moveCursor (s : State) (pos : Count) (n : Nat) : State := { s with cursor := some (pos + BitVec.ofNat 13 n) }

/-- The entry of SCAN: `POS <- 0` and the outcome cleared (spec/41_frame_decoder.md R95). -/
def State.beginScan (s : State) : State := { s.clearOutcome with cursor := some 0 }

/-- The end of SCAN at the cursor: `CONSUMED <- POS; CONSUME(POS); STATUS <- ok` (spec/41_frame_decoder.md R106). -/
def State.endScan (s : State) : Result :=
  s.atCursor fun pos =>
    match s.buf.consume pos.toNat with
    | .ok rest => .next { s with buf := rest, consumed := pos, cursor := none, status := .ok }
    | .error _ => .refused .consumePastEnd

/-- What the position at the cursor is: the decoder on the bytes from there to the end of the buffer, none when fewer than 4
remain (spec/41_frame_decoder.md R96, R97). -/
def State.positionAt (s : State) (pos : Count) : Option Position := decodePosition s.params (s.buf.drop pos.toNat)

end Sys2Proof.Machine
end

