-- ==== Sys2Proof/Machine/Commands.lean ====
section
/-! DEFINITION. The host commands but SCAN: IDLE, FEED, CLEAR, UNPACK, CRC8 and the two reserved codes. -/

namespace Sys2Proof.Machine

/-- `IDLE` (spec/40_reassembly_buffer.md R70). -/
def execIdle (s : State) : Result := s.atRest (.next s.succeed)

/-- `FEED chunk` (spec/40_reassembly_buffer.md R71 to R75). -/
def execFeed (chunk : List Byte) (s : State) : Result :=
  s.atRest (.next
    { s with
      buf := s.buf.feed chunk
      dropped := cutFromChunk chunk + evictedBy s.buf chunk
      status := .ok })

/-- `CLEAR`: the buffer only (spec/40_reassembly_buffer.md R78, decision D17). -/
def execClear (s : State) : Result := s.atRest (.next { s with buf := [], status := .ok })

/-- `UNPACK p` (spec/42_channel_unpacker.md R120, R127). -/
def execUnpack (p : List Byte) (s : State) : Result :=
  s.atRest (
    match payloadOf p with
    | none => .next (s.refuse .insufficientData)
    | some v => .next (s.deliver v).succeed)

/-- `CRC8 s` (spec/41_frame_decoder.md R93). -/
def execCrc8 (bytes : List Byte) (s : State) : Result :=
  s.atRest (.next { s with crcOut := crc8 bytes, status := .ok })

/-- Command code `110`: refused, nothing else changes (spec/30_encoding.md R59; assumption 8). -/
def execReserved110 (_operand : List Byte) (s : State) : Result := s.atRest (.next (s.refuse .reservedCommand))

/-- Command code `111`: refused, nothing else changes (spec/30_encoding.md R59; assumption 8). -/
def execReserved111 (_operand : List Byte) (s : State) : Result := s.atRest (.next (s.refuse .reservedCommand))

end Sys2Proof.Machine
end

