-- ==== Sys2Proof/Machine/Classes.lean ====
section
/-! DEFINITION. The position classes: one STEP of SCAN each (spec/41_frame_decoder.md R97 to R105; spec/60_exceptions.md R141). -/

namespace Sys2Proof.Machine

/-- `ADDR_REJECT` (spec/41_frame_decoder.md R98). -/
def execAddrReject (_a : Byte) (s : State) : Result :=
  s.atCursor fun pos => .next (s.countAddrRej.moveCursor pos 1)

/-- `LEN_REJECT`: no counter (spec/41_frame_decoder.md R99). -/
def execLenReject (_l : Byte) (s : State) : Result :=
  s.atCursor fun pos => .next (s.moveCursor pos 1)

/-- `WAIT`: the scan stops where it is, and ends (spec/41_frame_decoder.md R100, R106; assumption 20). -/
def execWait (_l : Byte) (s : State) : Result := s.endScan

/-- `BAD_CRC` (spec/41_frame_decoder.md R101, R102). -/
def execBadCrc (_t : Byte) (_p : List Byte) (_c : Byte) (s : State) : Result :=
  s.atCursor fun pos => .next (s.countSeen.countBadCrc.moveCursor pos 1)

/-- `RC_CHANNELS` (spec/41_frame_decoder.md R101, R103, R104, R105). -/
def execRcChannels (p : Payload) (_c : Byte) (s : State) : Result :=
  s.atCursor fun pos => .next ((s.countSeen.countValid.countRc.deliver p).moveCursor pos 26)

/-- `VALID_IGNORED`: the whole frame is passed, its contents ignored (spec/41_frame_decoder.md R101, R103, R105). -/
def execValidIgnored (_t : Byte) (p : List Byte) (_c : Byte) (s : State) : Result :=
  s.atCursor fun pos => .next (s.countSeen.countValid.moveCursor pos (p.length + 4))

/-- The meaning of the class of a position. -/
def stepPosition (q : Position) (s : State) : Result :=
  match q with
  | .addrReject a => execAddrReject a s
  | .lenReject l => execLenReject l s
  | .wait l => execWait l s
  | .badCrc t p c => execBadCrc t p c s
  | .rcChannels p c => execRcChannels p c s
  | .validIgnored t p c => execValidIgnored t p c s

end Sys2Proof.Machine
end

