-- ==== Sys2Proof/Machine/Scan.lean ====
section
/-! DEFINITION. SCAN as one atomic operation (spec/41_frame_decoder.md R95 to R107). -/

namespace Sys2Proof.Machine

/-- The loop of SCAN (spec/41_frame_decoder.md R107) for at most `n` rounds: a STEP while 4 bytes remain, else the end. Each
STEP that goes on moves the cursor, so `LEN + 1` rounds are enough (R112). -/
def scanLoop : Nat → State → Result
  | 0, s => .next s
  | n + 1, s =>
    match s.cursor with
    | none => .next s
    | some pos =>
      match s.positionAt pos with
      | none => s.endScan
      | some q =>
        match stepPosition q s with
        | .next t => scanLoop n t
        | .fault f => .fault f
        | .refused r => .refused r

/-- `SCAN` (spec/41_frame_decoder.md R95, R107). -/
def execScan (s : State) : Result :=
  s.atRest (scanLoop (s.buf.length + 1) s.beginScan)

end Sys2Proof.Machine
end

