-- ==== Sys2Proof/Machine/Dispatch.lean ====
section
/-! DEFINITION. The meaning of each instruction: one arm per constructor, one definition per arm. -/

namespace Sys2Proof.Machine

def exec (i : Instr) (s : State) : Host.Outcome State Fault Refusal :=
  match i with
  -- the host's commands (spec/30_encoding.md R58, R59)
  | .idle => Sys2Proof.Machine.execIdle s
  | .feed chunk => Sys2Proof.Machine.execFeed chunk s
  | .scan => Sys2Proof.Machine.execScan s
  | .clear => Sys2Proof.Machine.execClear s
  | .unpack p => Sys2Proof.Machine.execUnpack p s
  | .crc8 bytes => Sys2Proof.Machine.execCrc8 bytes s
  | .reserved110 operand => Sys2Proof.Machine.execReserved110 operand s
  | .reserved111 operand => Sys2Proof.Machine.execReserved111 operand s
  -- the classes of a scan position (spec/30_encoding.md R55)
  | .addrReject a => Sys2Proof.Machine.execAddrReject a s
  | .lenReject l => Sys2Proof.Machine.execLenReject l s
  | .wait l => Sys2Proof.Machine.execWait l s
  | .badCrc t p c => Sys2Proof.Machine.execBadCrc t p c s
  | .rcChannels p c => Sys2Proof.Machine.execRcChannels p c s
  | .validIgnored t p c => Sys2Proof.Machine.execValidIgnored t p c s

end Sys2Proof.Machine
end

