-- ==== Sys2Proof/Machine/Trace.lean ====
section
/-! DEFINITION. The host's side: what a host event does, and operation traces, the block's "assembly language"
(spec/30_encoding.md R60 to R63; assumptions 15, 19). -/

namespace Sys2Proof.Machine

/-- Reset applied between operations (spec/70_reset_and_hazards.md R160): the reset table, for the same parameters (R162); the host's
remaining trace and the count of free draws are the model's own and go on (assumption 19). -/
def State.applyReset (s : State) : State := { resetWith s.params s.drawn with trace := s.trace }

/-- One host event: reset, or the decoded operation of the presented command word (spec/30_encoding.md R58). -/
def runEvent (e : HostEvent) (s : State) : Result :=
  match e with
  | .reset => .next s.applyReset
  | .issue w =>
    match decodeCommand w with
    | .ok i => exec i s
    | .error why => .refused (.undecodable why)

/-- A line of a trace (spec/30_encoding.md R60), with the pseudo-operations RX (R61) and FEEDB (R62). -/
inductive TraceLine where
  | reset
  | idle
  | scan
  | clear
  | feed (bytes : List Byte)
  | rx (bytes : List Byte)
  | unpack (bytes : List Byte)
  | crc8 (bytes : List Byte)
  | feedb (b : Byte)
  deriving DecidableEq, Repr

/-- The host events a trace line stands for (spec/30_encoding.md R58, R61, R62, R63). -/
def TraceLine.assemble : TraceLine → List HostEvent
  | .reset => [.reset]
  | .idle => [.issue ⟨0b000, []⟩]
  | .scan => [.issue ⟨0b010, []⟩]
  | .clear => [.issue ⟨0b011, []⟩]
  | .feed bs => [.issue ⟨0b001, bs⟩]
  | .rx bs => [.issue ⟨0b001, bs⟩, .issue ⟨0b010, []⟩]
  | .unpack bs => [.issue ⟨0b100, bs⟩]
  | .crc8 bs => [.issue ⟨0b101, bs⟩]
  | .feedb b => [.issue ⟨0b001, [b]⟩]

/-- The host events of a whole trace, in order. -/
def assembleTrace (ls : List TraceLine) : List HostEvent := ls.flatMap TraceLine.assemble

/-- The value of a digit in the given base, a letter in either case (assumption 15). -/
def digitValue (base : Nat) (c : Char) : Option Nat := (List.range base).find? fun v => Nat.digitChar v == c.toLower

/-- `hexbyte`: two hexadecimal digits, the high one first (spec/30_encoding.md R60). -/
def hexByte (high low : Char) : Option Byte :=
  (digitValue 16 high).bind fun x => (digitValue 16 low).map fun y => BitVec.ofNat 8 (16 * x + y)

/-- The `count` of a repetition, read as a decimal number (assumption 15). -/
def repeatCount (digits : List Char) : Option Nat := digits.foldlM (fun n c => (digitValue 10 c).map (10 * n + ·)) 0

/-- One word of `bytes`: a `hexbyte`, or a repetition `NN*count` (spec/30_encoding.md R60). DESIGN CHOICE (assumption 15): the grammar
gives no separator, and the model takes each `hexbyte` as a word of its own, so bytes joined in one word are refused. -/
def parseBytes : List Char → Option (List Byte)
  | high :: low :: more =>
    match more with
    | [] => (hexByte high low).map fun b => [b]
    | star :: digit :: digits =>
      if star = '*' then (hexByte high low).bind fun b => (repeatCount (digit :: digits)).map (List.replicate · b) else none
    | [_] => none
  | _ => none

/-- The items of `bytes`, in stream order. -/
def parseOperand : List (List Char) → Option (List Byte)
  | [] => some []
  | w :: ws => do
    let b ← parseBytes w
    let bs ← parseOperand ws
    return b ++ bs

/-- The pieces of a text between the characters that `sep` picks out; `piece` is the current piece, reversed. -/
def splitText (sep : Char → Bool) (piece : List Char) : List Char → List (List Char)
  | [] => [piece.reverse]
  | c :: cs => if sep c then piece.reverse :: splitText sep [] cs else splitText sep (c :: piece) cs

/-- The words of one line: its comment cut off, split at blanks. DESIGN CHOICE (assumption 15): the grammar gives no separator, and a
space, a tab and a carriage return each count as one. -/
def lineWords (line : List Char) : List (List Char) :=
  (splitText (fun c => c == ' ' || c == '\t' || c == '\r') [] (line.takeWhile (· != ';'))).filter (· != [])

/-- One line of trace text (spec/30_encoding.md R60); a line with no word stands for nothing (assumption 15). -/
def parseLine (ws : List (List Char)) : Option (List TraceLine) :=
  match ws with
  | [] => some []
  | [['R', 'E', 'S', 'E', 'T']] => some [.reset]
  | [['I', 'D', 'L', 'E']] => some [.idle]
  | [['S', 'C', 'A', 'N']] => some [.scan]
  | [['C', 'L', 'E', 'A', 'R']] => some [.clear]
  | ['F', 'E', 'E', 'D'] :: ops => (parseOperand ops).map fun bs => [.feed bs]
  | ['R', 'X'] :: ops => (parseOperand ops).map fun bs => [.rx bs]
  | ['U', 'N', 'P', 'A', 'C', 'K'] :: ops => (parseOperand ops).map fun bs => [.unpack bs]
  | ['C', 'R', 'C', '8'] :: ops => (parseOperand ops).map fun bs => [.crc8 bs]
  | [['F', 'E', 'E', 'D', 'B'], [high, low]] => (hexByte high low).map fun b => [.feedb b]
  | _ => none

/-- The lines of a trace, none where one of them is not of the grammar. -/
def parseLines : List (List Char) → Option (List TraceLine)
  | [] => some []
  | l :: ls => do
    let x ← parseLine (lineWords l)
    let xs ← parseLines ls
    return x ++ xs

/-- The text of a trace, one operation per line (spec/30_encoding.md R60). -/
def parseTrace (text : List Char) : Option (List TraceLine) := parseLines (splitText (· == '\n') [] text)

end Sys2Proof.Machine
end

