-- ==== Sys2Proof/Machine/Step.lean ====
section
/-! DEFINITION. One step of the machine.

Between operations it takes the host's next event and runs it, a whole operation at a time (spec/20_memory.md R43); with no event it
holds its state (spec/70_reset_and_hazards.md R160). With a SCAN in progress it takes one STEP at the cursor, or the end of the scan
(spec/41_frame_decoder.md R96 to R106). -/

namespace Sys2Proof.Machine

/-- One step. -/
def step (s : State) : Host.Outcome State Fault Refusal :=
  match s.cursor with
  | some pos =>
    match s.positionAt pos with
    | some q => exec q.toInstr s
    | none => s.endScan
  | none =>
    match s.trace with
    | e :: rest => runEvent e { s with trace := rest }
    | [] => .next s

/-- `s` with a word of spec/opcode_table.json where the next step fetches (assumptions 6, 7): a command word at the head of the host's
trace with no SCAN in progress; the bytes of a position in the buffer with the cursor of a SCAN at them. -/
def State.withFetchWord (s : State) (nbits w : Nat) : State :=
  match tableEncoding nbits w with
  | .command word => { s with cursor := none, trace := .issue word :: s.trace }
  | .stream bytes => { s with cursor := some 0, buf := bytes }

end Sys2Proof.Machine
end

