-- ==== Sys2Proof/Machine/Events.lean ====
section
/-! DEFINITION. The scan as a pure function of the buffer, its event list, and runs of receive events
(spec/41_frame_decoder.md R108, R110, R116).

The machine does not use this file: SCAN is `execScan`. Statements relate the two. -/

namespace Sys2Proof.Machine

/-- One STEP of a scan: where it stood, what the position was, and the sixteen pulse widths of a channel-data frame
(spec/41_frame_decoder.md R108). -/
structure Event where
  offset : Nat
  position : Position
  values : Option Channels
  deriving DecidableEq, Repr

/-- The pulse widths that a position yields (spec/41_frame_decoder.md R108). -/
def positionValues : Position → Option Channels
  | .rcChannels p _ => some (unpackChannels p)
  | .addrReject _ => none
  | .lenReject _ => none
  | .wait _ => none
  | .badCrc .. => none
  | .validIgnored .. => none

/-- The STEPs from offset `pos` on, at most `n` of them, over the bytes `view` from there to the end of the buffer: the final offset
and the events. -/
def scanFrom (c : Params) : Nat → Nat → List Byte → Nat × List Event
  | 0, pos, _ => (pos, [])
  | n + 1, pos, view =>
    match decodePosition c view with
    | none => (pos, [])
    | some q =>
      match q.advance with
      | none => (pos, [⟨pos, q, none⟩])
      | some k =>
        let r := scanFrom c n (pos + k) (view.drop k)
        (r.1, ⟨pos, q, positionValues q⟩ :: r.2)

/-- `scan(b)`: the number of bytes passed and the events in order (spec/41_frame_decoder.md R108). -/
def scan (c : Params) (b : List Byte) : Nat × List Event := scanFrom c b.length 0 b

/-- How many events have a cause code that `keep` picks out (spec/60_exceptions.md R141). -/
def countEvents (keep : Nat → Bool) (es : List Event) : Nat := es.countP fun e => keep e.position.causeCode

/-- The values of the last channel-data frame among the events (spec/41_frame_decoder.md R108, R109). -/
def lastValues (es : List Event) : Option Channels := es.foldl (fun v e => e.values.or v) none

/-- `RX chunk`, one receive event: FEED then SCAN (spec/30_encoding.md R61; spec/41_frame_decoder.md R116). -/
def receive (chunk : List Byte) (s : State) : Result :=
  match exec (.feed chunk) s with
  | .next t => exec .scan t
  | .fault f => .fault f
  | .refused r => .refused r

/-- The events of the scan of a buffer other than WAIT, offsets counted from `base` (spec/41_frame_decoder.md R110). -/
def decidedEvents (base : Nat) (c : Params) (b : List Byte) : List Event :=
  ((scan c b).2.filter fun e => e.position.causeCode != 3).map fun e => { e with offset := base + e.offset }

/-- A run of receive events: the events other than WAIT of all its SCANs, offsets counted from the start of the stream whose byte
`base` is the front of the buffer, and the last state; none where a FEED drops a byte (spec/41_frame_decoder.md R110). -/
def receiveAll : Nat → List (List Byte) → State → Option (List Event × State)
  | _, [], s => some ([], s)
  | base, chunk :: chunks, s =>
    match exec (.feed chunk) s with
    | .next t =>
      if t.dropped = 0 then
        match exec .scan t with
        | .next u =>
          (receiveAll (base + u.consumed.toNat) chunks u).map fun r => (decidedEvents base t.params t.buf ++ r.1, r.2)
        | .fault _ => none
        | .refused _ => none
      else none
    | .fault _ => none
    | .refused _ => none

/-- FEEDs one after the other, with the total of their `DROPPED` (spec/40_reassembly_buffer.md R74). -/
def feedAll : Nat → List (List Byte) → State → Option (Nat × State)
  | total, [], s => some (total, s)
  | total, chunk :: chunks, s =>
    match exec (.feed chunk) s with
    | .next t => feedAll (total + t.dropped) chunks t
    | .fault _ => none
    | .refused _ => none

end Sys2Proof.Machine
end

