-- ==== Sys2Proof/Safety.lean ====
section
/-! DEFINITION. The invariant of the machine: what holds of every state a run reaches, in the terms the statements use. -/

namespace Sys2Proof.Machine

/-- `n` steps, stopping where one answers no next state. -/
def runSteps : Nat → State → Result
  | 0, s => .next s
  | n + 1, s =>
    match step s with
    | .next t => runSteps n t
    | .fault f => .fault f
    | .refused r => .refused r

/-- How far the scan in progress has come, or the last scan came (spec/10_state.md R22, R27). -/
def State.passed (s : State) : Nat := (s.cursor.getD s.consumed).toNat

/-- The invariant. -/
structure State.Inv (s : State) : Prop where
  /-- `LEN ≤ CAP` (spec/10_state.md R20). -/
  bufBound : s.buf.length ≤ Config.cap
  /-- `POS ≤ LEN` (spec/41_frame_decoder.md R112). -/
  cursorBound : ∀ pos, s.cursor = some pos → pos.toNat ≤ s.buf.length
  /-- `CONSUMED` is a number of bytes of a buffer (spec/00_scope.md R11). -/
  consumedBound : s.consumed.toNat ≤ Config.cap
  /-- `N_SEEN = N_VALID + N_BAD_CRC` (spec/41_frame_decoder.md R111). -/
  seenSplit : s.nSeen.toNat = s.nValid.toNat + s.nBadCrc.toNat
  /-- `N_RC ≤ N_VALID` (spec/41_frame_decoder.md R111). -/
  rcBound : s.nRc.toNat ≤ s.nValid.toNat
  /-- The bytes that the counted events passed (spec/41_frame_decoder.md R111). -/
  passedBound :
    s.nAddrRej.toNat + s.nBadCrc.toNat + 4 * (s.nValid.toNat - s.nRc.toNat) + 26 * s.nRc.toNat ≤ s.passed
  /-- A counted channel-data frame left FRESH set (spec/41_frame_decoder.md R104). -/
  freshOfRc : s.nRc ≠ 0 → s.fresh = true
  /-- Fresh channels are in range (spec/42_channel_unpacker.md R126). -/
  channelRange : s.fresh = true → ∀ k : Channel, 880 ≤ s.ch[k].toNat ∧ s.ch[k].toNat ≤ 2159

end Sys2Proof.Machine
end

