-- ==== Sys2Proof/Certificates/Slice0/Obligations.lean ====
section
/-! DEFINITION. The statements for the provers. OBLIGATIONS.json lists them with the rules each one formalises. -/

open Sys2Proof Sys2Proof.Machine

/-! ### Reset and the host -/

/-- spec/10_state.md R30, R31: the buffer is empty, no frame has been seen, there is no fresh channel data. -/
def Obligations.ResetLeavesEmptyBufferAndOutcome : Prop :=
  State.reset.buf = [] ∧ State.reset.len = 0 ∧ State.reset.nSeen = 0 ∧ State.reset.nValid = 0 ∧
  State.reset.nAddrRej = 0 ∧ State.reset.nBadCrc = 0 ∧ State.reset.nRc = 0 ∧ State.reset.fresh = false

/-- spec/70_reset_and_hazards.md R160, R162: reset applied between operations gives the reset table whatever the state was, and keeps
the parameters. `CH` and `CRC_OUT` are left open (the model fills them with free values: assumptions 3, 4, 19). -/
def Obligations.ResetEventGivesResetTable : Prop :=
  ∀ (s : State) (rest : List HostEvent), s.cursor = none → s.trace = .reset :: rest →
    ∃ (v : Channels) (x : Byte) (d : Nat), step s = .next
      { s with
        buf := [], nSeen := 0, nValid := 0, nAddrRej := 0, nBadCrc := 0, nRc := 0, fresh := false
        ch := v, status := .ok, dropped := 0, consumed := 0, crcOut := x, trace := rest, drawn := d }

/-- spec/70_reset_and_hazards.md R160: after reset the block does nothing until the host issues an operation (assumption 6). -/
def Obligations.NoEventHoldsState : Prop :=
  ∀ s : State, s.cursor = none → s.trace = [] → step s = .next s

/-- spec/30_encoding.md R58: the step between operations decodes the presented command word and runs exactly that operation, once
the word is taken from the host's trace. -/
def Obligations.StepRunsPresentedCommand : Prop :=
  ∀ (s : State) (w : CommandWord) (rest : List HostEvent) (i : Instr),
    s.cursor = none → s.trace = .issue w :: rest → decodeCommand w = .ok i →
    step s = exec i { s with trace := rest }

/-- spec/41_frame_decoder.md R96: with a SCAN in progress a STEP is taken exactly when 4 bytes remain at the cursor: the step decodes the
bytes from the cursor to the end of the buffer and runs exactly that class. With fewer than 4 left the same step ends the loop and
compacts (R106): that one step does both is the model's reading (assumption 20), and the cursor as state is its form (assumption 5). -/
def Obligations.StepRunsPositionAtCursor : Prop :=
  ∀ (s : State) (pos : Count), s.cursor = some pos →
    (pos.toNat + 4 ≤ s.buf.length → (decodePosition s.params (s.buf.drop pos.toNat)).isSome = true) ∧
    (∀ q, decodePosition s.params (s.buf.drop pos.toNat) = some q → step s = exec q.toInstr s) ∧
    (pos.toNat ≤ s.buf.length → s.buf.length < pos.toNat + 4 →
      step s = .next { s with buf := s.buf.drop pos.toNat, consumed := pos, cursor := none, status := .ok })

/-- spec/30_encoding.md R61, spec/41_frame_decoder.md R116: an `RX` line is a FEED of the chunk and then a SCAN: the two steps that
its assembled words take are one receive event. -/
def Obligations.RxLineIsFeedThenScan : Prop :=
  ∀ (s : State) (chunk : List Byte), s.cursor = none → s.trace = (TraceLine.rx chunk).assemble →
    ∃ t, step s = .next t ∧ step t = receive chunk { s with trace := [] }

/-! ### Encodings -/

/-- spec/30_encoding.md R58, R59: each command code with the operand it takes, both ways: a word decodes to a command exactly when it
is that command's encoding. -/
def Obligations.CommandWordsDecodeAndEncode : Prop :=
  ∀ (c : Params) (w : CommandWord) (i : Instr), decodeCommand w = .ok i ↔ encode c i = .command w

/-- spec/30_encoding.md R58 and spec/opcode_table.json: the command codes as the table writes them, and one frame. The frame is read with
the default parameters, whose values are presumed (assumption 1), and how a table word stands for position bytes is the model's choice
(assumption 7). -/
def Obligations.CommandCodesOfTheTable : Prop :=
  decodeTableWord 8 0b000 = some .idle ∧ decodeTableWord 8 0b001 = some (.feed []) ∧
  decodeTableWord 8 0b010 = some .scan ∧ decodeTableWord 8 0b011 = some .clear ∧
  decodeTableWord 8 0b100 = some (.unpack []) ∧ decodeTableWord 8 0b101 = some (.crc8 []) ∧
  decodeTableWord 8 0b110 = some (.reserved110 []) ∧ decodeTableWord 8 0b111 = some (.reserved111 []) ∧
  decodeTableWord 32 0xC8023AA0 = some (.validIgnored 0x3A [] 0xA0)

/-- spec/30_encoding.md R50, R51, R55: the bytes of a well-formed position, followed by whatever makes up the 4 bytes a position needs
(and, for WAIT, too few bytes for the declared frame), decode to that position, with every field at every value. -/
def Obligations.PositionBytesDecodeToPosition : Prop :=
  ∀ (c : Params) (q : Position) (rest : List Byte),
    q.toInstr.wellFormed c = true → 4 ≤ (encodePosition c q ++ rest).length →
    (∀ l, q = .wait l → (encodePosition c q ++ rest).length < l.toNat + 2) →
    decodePosition c (encodePosition c q ++ rest) = some q

/-- spec/30_encoding.md R50, R55: the other direction: what a position decodes to is well formed and its bytes stand at the front; and
a position decodes exactly when 4 bytes are there (spec/41_frame_decoder.md R96). -/
def Obligations.DecodedPositionIsWellFormedPrefix : Prop :=
  ∀ (c : Params) (bytes : List Byte),
    ((decodePosition c bytes).isSome = true ↔ 4 ≤ bytes.length) ∧
    ∀ q, decodePosition c bytes = some q → q.toInstr.wellFormed c = true ∧ encodePosition c q <+: bytes

/-- spec/20_memory.md R41: the fields of a complete candidate at the cursor sit at their fixed offsets: address at `POS`, length at
`POS+1`, type at `POS+2`, payload at `POS+3` to `POS+L`, crc at `POS+L+1`. The candidate is the `L + 2` bytes from `POS` on, the CRC
covers the `L − 1` bytes from `POS+2` on, and all of it is inside the buffer. -/
def Obligations.CandidateFieldsSitAtTheirOffsets : Prop :=
  ∀ (s : State) (pos : Count) (t : Byte) (p : List Byte) (r : Byte),
    s.positionAt pos = some (.badCrc t p r) ∨ s.positionAt pos = some (.validIgnored t p r) ∨
      (∃ v : Payload, v.toList = p ∧ t = s.params.typeRc ∧ s.positionAt pos = some (.rcChannels v r)) →
    ∃ l : Byte, l.toNat = p.length + 2 ∧
      s.buf.read pos.toNat 2 = some [s.params.addrFc, l] ∧
      s.buf.read (pos.toNat + 2) 1 = some [t] ∧
      s.buf.read (pos.toNat + 3) p.length = some p ∧
      s.buf.read (pos.toNat + l.toNat + 1) 1 = some [r] ∧
      s.buf.read (pos.toNat + 2) (l.toNat - 1) = some (t :: p) ∧
      s.buf.read pos.toNat (l.toNat + 2) = some (frameBytes s.params t p r)

/-! ### The buffer -/

/-- spec/20_memory.md R36: `MemRead(off, n)` is defined exactly when `off + n ≤ LEN`, and its bytes are those at the offsets. -/
def Obligations.MemReadInsideBufferOnly : Prop :=
  ∀ (s : State) (off n : Nat),
    ((Memory.read s.buf off n).isSome = true ↔ off + n ≤ s.buf.length) ∧
    ∀ bytes, Memory.read s.buf off n = some bytes →
      bytes.length = n ∧ ∀ i, i < n → bytes[i]? = s.readByte (off + i)

/-- spec/40_reassembly_buffer.md R76, R77: CONSUME removes a prefix, keeps the order of the rest, and is refused past the end. -/
def Obligations.ConsumeDropsPrefixOrRefuses : Prop :=
  ∀ (s : State) (n : Nat),
    (n ≤ s.buf.length →
      ∃ m, Memory.consume s.buf n = .ok m ∧ m.length = s.buf.length - n ∧ ∀ i : Nat, m[i]? = s.readByte (n + i)) ∧
    (s.buf.length < n → Memory.consume s.buf n = .error .consumePastEnd)

/-- spec/40_reassembly_buffer.md R70: IDLE. -/
def Obligations.IdleWritesStatusOnly : Prop :=
  ∀ s : State, s.cursor = none → exec .idle s = .next { s with status := .ok }

/-- spec/40_reassembly_buffer.md R71, in the closed form of R74 (marked derived by the spec): FEED leaves the last `CAP` bytes of the old
buffer followed by the chunk, reports how many bytes were lost (R75, the spec's decision D12), and touches nothing else (R82, marked
derived). -/
def Obligations.FeedKeepsLastCapBytes : Prop :=
  ∀ (s : State) (chunk : List Byte), s.cursor = none →
    exec (.feed chunk) s = .next
      { s with
        buf := lastBytes Config.cap (s.buf ++ chunk)
        dropped := overflow (s.buf.length + chunk.length)
        status := .ok }

/-- spec/20_memory.md R47, spec/40_reassembly_buffer.md R73: every byte that stays is found `DROPPED` offsets nearer the front, every
admitted byte of the chunk after all of them, in the order given; no other offset holds a byte; at most `CAP` are held, and nothing
is lost while they fit. -/
def Obligations.FeedMovesBytesInOrder : Prop :=
  ∀ (s t : State) (chunk : List Byte), exec (.feed chunk) s = .next t →
    (∀ a, t.readByte a = if a + t.dropped < s.buf.length then s.readByte (a + t.dropped)
      else chunk[a + t.dropped - s.buf.length]?) ∧
    t.buf.length + t.dropped = s.buf.length + chunk.length ∧ t.buf.length ≤ Config.cap ∧
    (s.buf.length + chunk.length ≤ Config.cap → t.dropped = 0)

/-- spec/40_reassembly_buffer.md R74: however a sequence is cut into chunks, byte by byte among them, feeding the chunks leaves the
buffer that one FEED of the whole leaves, and the pieces' `DROPPED` add up to its `DROPPED`. -/
def Obligations.FeedIsAssociativeOverChunking : Prop :=
  ∀ (s : State) (chunks : List (List Byte)), s.cursor = none → s.buf.length ≤ Config.cap →
    ∃ t u total, feedAll 0 chunks s = some (total, t) ∧ exec (.feed chunks.flatten) s = .next u ∧
      t.buf = u.buf ∧ total = u.dropped ∧
      u.buf = lastBytes Config.cap (s.buf ++ chunks.flatten)

/-- spec/40_reassembly_buffer.md R78: CLEAR empties the buffer and writes nothing else but STATUS. -/
def Obligations.ClearEmptiesBufferOnly : Prop :=
  ∀ s : State, s.cursor = none → exec .clear s = .next { s with buf := [], status := .ok }

/-! ### The checksum -/

/-- spec/41_frame_decoder.md R93: the CRC8 command. -/
def Obligations.Crc8CommandWritesCrcOut : Prop :=
  ∀ (s : State) (bytes : List Byte), s.cursor = none →
    exec (.crc8 bytes) s = .next { s with crcOut := crc8 bytes, status := .ok }

/-- spec/41_frame_decoder.md R91: the printed table holds `CRC8([v])` for every byte, and the table form computes the check. -/
def Obligations.CrcTableFormEqualsBitSerial : Prop :=
  (∀ v : Byte, crcTable[v.toNat]? = some (crc8 [v])) ∧ ∀ s : List Byte, crc8ByTable s = crc8 s

/-- spec/41_frame_decoder.md R92 (a), (b), (c), (e): linearity, leading zero bytes, the residue and the equivalent form of the test, the
check value. -/
def Obligations.CrcLinearZeroPrefixResidue : Prop :=
  (∀ a b : List Byte, a.length = b.length → crc8 (List.zipWith (· ^^^ ·) a b) = crc8 a ^^^ crc8 b) ∧
  (∀ s : List Byte, crc8 (0 :: s) = crc8 s) ∧
  (∀ (s : List Byte) (r : Byte), crc8 (s ++ [r]) = 0 ↔ crc8 s = r) ∧
  crc8 [0x31, 0x32, 0x33, 0x34, 0x35, 0x36, 0x37, 0x38, 0x39] = 0xBC

/-- spec/41_frame_decoder.md R92 (d): every single-bit error changes the check. -/
def Obligations.CrcDetectsEverySingleBitError : Prop :=
  ∀ (s : List Byte) (j : Nat) (b : Fin 8), j < s.length → crc8 (flipBit s j b) ≠ crc8 s

/-! ### The channel unpacker -/

/-- spec/42_channel_unpacker.md R120, R121, R123: with `P` the first 22 bytes as one little-endian integer, channel `k` is
`tdiv((P[11k+10 : 11k] − 992) × 5, 8) + 1500`, FRESH is set, and nothing else but STATUS changes. Fewer than 22 bytes are refused and
nothing but STATUS changes; of more than 22 the first 22 are decoded (R127, the spec's decision D15; assumption 12). -/
def Obligations.UnpackDecodesLittleEndianFields : Prop :=
  ∀ (s : State) (p : List Byte), s.cursor = none →
    (p.length < 22 → exec (.unpack p) s = .next { s with status := .refused .insufficientData }) ∧
    (22 ≤ p.length → exec (.unpack p) s = .next
      { s with
        ch := Vector.ofFn fun k =>
          BitVec.ofInt 12 (Int.tdiv ((((littleEndian (p.take 22) >>> (11 * k.val)) % 2048 : Nat) - 992) * 5) 8 + 1500)
        fresh := true, status := .ok })

/-- spec/42_channel_unpacker.md R127 (decision D15): bytes after the first 22 of an UNPACK operand change nothing. -/
def Obligations.UnpackIgnoresBytesAfterTheFirst22 : Prop :=
  ∀ (s : State) (p q : List Byte), s.cursor = none → p.length = 22 →
    exec (.unpack (p ++ q)) s = exec (.unpack p) s

/-- spec/42_channel_unpacker.md R121: the tick of channel `k` is the bits `11k + 10` down to `11k` of the 22 bytes read as one
little-endian integer; and bit `b` of it is bit `(11k + b) mod 8` of byte `⌊(11k + b) / 8⌋`. -/
def Obligations.ExtractFormulationsAgree : Prop :=
  ∀ (p : Payload) (k : Channel),
    (extract p k).toNat = (littleEndian p.toList >>> (11 * k.val)) % 2048 ∧
    ∀ b : Fin 11,
      (extract p k).getLsbD b.val = ((p.toList)[(11 * k.val + b.val) / 8]?.getD 0).getLsbD ((11 * k.val + b.val) % 8)

/-- spec/42_channel_unpacker.md R120, R122: channel `k` depends only on the 2 bytes from `⌊11k/8⌋` on, and on the third exactly for the
channels 2, 5, 10 and 13. -/
def Obligations.LaneReadsOnlyItsBytes : Prop :=
  ∀ (p q : Payload) (k : Channel),
    (∀ j : Fin 22, 11 * k.val / 8 ≤ j.val →
      j.val ≤ 11 * k.val / 8 + (if k.val = 2 ∨ k.val = 5 ∨ k.val = 10 ∨ k.val = 13 then 2 else 1) → p[j] = q[j]) →
    (unpackChannels p)[k] = (unpackChannels q)[k]

/-- spec/42_channel_unpacker.md R126: the conversion does not decrease, takes exactly the values 880 to 2159 (1280 of them), and gives
1500 for exactly three ticks. -/
def Obligations.TickConversionRangeAndShape : Prop :=
  (∀ t u : Tick, t.toNat ≤ u.toNat → (ticksToUs t).toNat ≤ (ticksToUs u).toNat) ∧
  (∀ v : Nat, (880 ≤ v ∧ v ≤ 2159) ↔ ∃ t : Tick, (ticksToUs t).toNat = v) ∧
  (ticksToUs 0).toNat = 880 ∧ (ticksToUs 2047).toNat = 2159 ∧
  (∀ t : Tick, (ticksToUs t).toNat = 1500 ↔ t = 991 ∨ t = 992 ∨ t = 993)

/-- spec/42_channel_unpacker.md R123, R124: the microseconds of a tick are its distance from 992 times 5 divided by 8, truncated toward
zero, plus 1500, with nothing lost in the 12 stored bits. Truncation and floor agree for `t ≥ 992` and where `992 − t` is a multiple
of 8 (R125, marked derived by the spec), and elsewhere floor is 1 lower (R124). -/
def Obligations.TickConversionTruncatesTowardZero : Prop :=
  ∀ t : Tick,
    ((ticksToUs t).toNat : Int) = Int.tdiv (((t.toNat : Int) - 992) * 5) 8 + 1500 ∧
    ((ticksToUs t).toNat : Int) =
      Int.fdiv (((t.toNat : Int) - 992) * 5) 8 + 1500 + (if 992 ≤ t.toNat ∨ (992 - t.toNat) % 8 = 0 then 0 else 1)

/-- spec/95_test_vectors.md section 4 (laws): the ticks packed into a payload are the ticks extracted from it. -/
def Obligations.PackedTicksAreExtracted : Prop :=
  ∀ (t : Vector Tick 16) (k : Channel), extract (packTicks t) k = t[k]

/-! ### Reserved codes and operations out of place -/

/-- spec/30_encoding.md R59: both reserved codes, with any operand, change STATUS only. Answering with a next state is the model's
choice (assumption 8). -/
def Obligations.ReservedCommandsAreRefused : Prop :=
  ∀ (s : State) (operand : List Byte), s.cursor = none →
    exec (.reserved110 operand) s = .next { s with status := .refused .reservedCommand } ∧
    exec (.reserved111 operand) s = .next { s with status := .refused .reservedCommand }

/-- The model's choice (assumption 10; spec/93_implementation_defined.md U9, spec/30_encoding.md R64): a host command stops by name while
a SCAN is in progress, and the class of a position stops by name while none is. -/
def Obligations.OperationsOutOfPlaceStopByName : Prop :=
  ∀ (s : State) (i : Instr),
    (∀ c, s.cursor = some c → (∃ w, encode s.params i = .command w) → exec i s = .refused .operationInProgress) ∧
    (s.cursor = none → (∃ bytes, encode s.params i = .stream bytes) → exec i s = .refused .noScanInProgress)

/-! ### The classes of a position -/

/-- spec/41_frame_decoder.md R98: ADDR_REJECT, and when a position is one. -/
def Obligations.AddrRejectCountsAndAdvancesOne : Prop :=
  ∀ (s : State) (pos : Count) (a : Byte), s.cursor = some pos →
    exec (.addrReject a) s = .next { s with nAddrRej := s.nAddrRej + 1, cursor := some (pos + 1) } ∧
    (pos.toNat + 4 ≤ s.buf.length → s.readByte pos.toNat = some a → a ≠ s.params.addrFc →
      step s = exec (.addrReject a) s)

/-- spec/41_frame_decoder.md R99: LEN_REJECT, and when a position is one. -/
def Obligations.LenRejectAdvancesOneUncounted : Prop :=
  ∀ (s : State) (pos : Count) (l : Byte), s.cursor = some pos →
    exec (.lenReject l) s = .next { s with cursor := some (pos + 1) } ∧
    (pos.toNat + 4 ≤ s.buf.length → s.readByte pos.toNat = some s.params.addrFc →
      s.readByte (pos.toNat + 1) = some l → l.toNat < 2 ∨ 62 < l.toNat → step s = exec (.lenReject l) s)

/-- spec/41_frame_decoder.md R100: WAIT leaves the cursor and the counters, the bytes from the cursor on stay, and when a position is one.
That the STEP of class WAIT itself compacts, writes CONSUMED and sets STATUS (R106) is the model's reading (assumption 20). -/
def Obligations.WaitEndsTheScanInPlace : Prop :=
  ∀ (s : State) (pos : Count) (l : Byte), s.cursor = some pos → pos.toNat ≤ s.buf.length →
    exec (.wait l) s = .next
      { s with buf := s.buf.drop pos.toNat, consumed := pos, cursor := none, status := .ok } ∧
    (pos.toNat + 4 ≤ s.buf.length → s.readByte pos.toNat = some s.params.addrFc →
      s.readByte (pos.toNat + 1) = some l → 2 ≤ l.toNat → l.toNat ≤ 62 →
      s.buf.length < pos.toNat + l.toNat + 2 → step s = exec (.wait l) s)

/-- spec/41_frame_decoder.md R102: BAD_CRC, and when a position is one. That it counts as a frame seen is R101, the spec's decision D6. -/
def Obligations.BadCrcCountsAndAdvancesOne : Prop :=
  ∀ (s : State) (pos : Count) (t : Byte) (p : List Byte) (r : Byte), s.cursor = some pos →
    exec (.badCrc t p r) s = .next
      { s with nSeen := s.nSeen + 1, nBadCrc := s.nBadCrc + 1, cursor := some (pos + 1) } ∧
    (p.length + 2 ≤ 62 →
      s.buf.read pos.toNat (p.length + 4) = some (frameBytes s.params t p r) →
      crc8 (t :: p) ≠ r → step s = exec (.badCrc t p r) s)

/-- spec/41_frame_decoder.md R101, R103, R104, R105: RC_CHANNELS, and when a position is one. -/
def Obligations.RcChannelsDeliversAndAdvances : Prop :=
  ∀ (s : State) (pos : Count) (p : Payload) (r : Byte), s.cursor = some pos →
    exec (.rcChannels p r) s = .next
      { s with
        nSeen := s.nSeen + 1, nValid := s.nValid + 1, nRc := s.nRc + 1
        ch := Vector.ofFn fun k => ticksToUs (extract p k), fresh := true
        cursor := some (pos + 26) } ∧
    (s.buf.read pos.toNat 26 = some (frameBytes s.params s.params.typeRc p.toList r) →
      crc8 (s.params.typeRc :: p.toList) = r → step s = exec (.rcChannels p r) s)

/-- spec/41_frame_decoder.md R101, R103, R104, R105: VALID_IGNORED, and when a position is one. -/
def Obligations.ValidIgnoredPassesWholeFrame : Prop :=
  ∀ (s : State) (pos : Count) (t : Byte) (p : List Byte) (r : Byte), s.cursor = some pos →
    exec (.validIgnored t p r) s = .next
      { s with
        nSeen := s.nSeen + 1, nValid := s.nValid + 1
        cursor := some (pos + BitVec.ofNat 13 (p.length + 4)) } ∧
    (p.length + 2 ≤ 62 →
      s.buf.read pos.toNat (p.length + 4) = some (frameBytes s.params t p r) →
      crc8 (t :: p) = r → t ≠ s.params.typeRc ∨ p.length ≠ 22 → step s = exec (.validIgnored t p r) s)

/-! ### SCAN -/

/-- spec/41_frame_decoder.md R108: SCAN as one step is the pure scan of the buffer: the registers are folds of its event list and the
buffer loses the bytes passed. What is counted and delivered follows the spec's decisions D6 to D10. When nothing was unpacked `CH` is
left open (the model fills it with a free draw: assumption 3). -/
def Obligations.ScanIsThePureScan : Prop :=
  ∀ s : State, s.cursor = none → s.buf.length ≤ Config.cap →
    ∃ (v : Channels) (d : Nat), (∀ x, lastValues (scan s.params s.buf).2 = some x → v = x) ∧
      exec .scan s = .next
        { s with
          buf := s.buf.drop (scan s.params s.buf).1
          consumed := BitVec.ofNat 13 (scan s.params s.buf).1
          nSeen := BitVec.ofNat 13 (countEvents (fun c => c == 4 || c == 5 || c == 6) (scan s.params s.buf).2)
          nValid := BitVec.ofNat 13 (countEvents (fun c => c == 5 || c == 6) (scan s.params s.buf).2)
          nAddrRej := BitVec.ofNat 13 (countEvents (fun c => c == 1) (scan s.params s.buf).2)
          nBadCrc := BitVec.ofNat 13 (countEvents (fun c => c == 4) (scan s.params s.buf).2)
          nRc := BitVec.ofNat 13 (countEvents (fun c => c == 5) (scan s.params s.buf).2)
          fresh := (lastValues (scan s.params s.buf).2).isSome
          ch := v, status := .ok, drawn := d }

/-- spec/41_frame_decoder.md R95 to R107: SCAN as one step is what the single STEPs give, taken one machine step at a time from the
entry of SCAN (cursor 0, outcome cleared) until the scan has ended. The states with a cursor are the model's form (assumption 5). -/
def Obligations.ScanIsItsStepsOneByOne : Prop :=
  ∀ s : State, s.cursor = none → s.buf.length ≤ Config.cap →
    ∃ (n : Nat) (t : State), n ≤ s.buf.length + 1 ∧ t.cursor = none ∧
      exec .scan s = .next t ∧ runSteps n s.beginScan = .next t

/-- spec/41_frame_decoder.md R111: the outcome after every SCAN. -/
def Obligations.ScanOutcomeLaws : Prop :=
  ∀ s t : State, s.buf.length ≤ Config.cap → exec .scan s = .next t →
    t.nSeen.toNat = t.nValid.toNat + t.nBadCrc.toNat ∧
    t.nRc.toNat ≤ t.nValid.toNat ∧
    (t.fresh = true ↔ 1 ≤ t.nRc.toNat) ∧
    (∀ k : Channel, (t.readChannel k).isSome = true ↔ t.fresh = true) ∧
    t.nAddrRej.toNat + t.nBadCrc.toNat + 4 * t.nValid.toNat ≤ t.consumed.toNat ∧
    t.nAddrRej.toNat + t.nBadCrc.toNat + 4 * (t.nValid.toNat - t.nRc.toNat) + 26 * t.nRc.toNat ≤ t.consumed.toNat

/-- spec/41_frame_decoder.md R112: progress and bounds of every SCAN: it ends, passes at most `LEN` bytes in at most `LEN − 3` STEPs, and
each counter keeps its bound. -/
def Obligations.ScanEndsWithinBounds : Prop :=
  ∀ s : State, s.cursor = none → s.buf.length ≤ Config.cap →
    ∃ t, exec .scan s = .next t ∧ t.cursor = none ∧
      t.consumed.toNat ≤ s.buf.length ∧ (scan s.params s.buf).2.length ≤ s.buf.length - 3 ∧
      t.nSeen.toNat ≤ 4093 ∧ t.nAddrRej.toNat ≤ 4093 ∧ t.nBadCrc.toNat ≤ 4093 ∧
      t.nValid.toNat ≤ s.buf.length / 4 ∧ t.nRc.toNat ≤ s.buf.length / 26

/-- spec/41_frame_decoder.md R113: what stays after every SCAN, and that a second SCAN with no FEED between changes no byte of it,
consumes nothing, and resets the outcome. -/
def Obligations.ScanResidueAwaitsOneFrame : Prop :=
  ∀ s t : State, s.buf.length ≤ Config.cap → exec .scan s = .next t →
    (t.buf.length ≤ 3 ∨
      (4 ≤ t.buf.length ∧ t.buf.length ≤ 63 ∧ t.readByte 0 = some t.params.addrFc ∧
        ∃ l : Byte, t.readByte 1 = some l ∧ 2 ≤ l.toNat ∧ l.toNat ≤ 62 ∧ t.buf.length < l.toNat + 2)) ∧
    ∃ u, exec .scan t = .next u ∧ u.buf = t.buf ∧ u.consumed = 0 ∧ u.nSeen = 0 ∧ u.nValid = 0 ∧
      u.nAddrRej = 0 ∧ u.nBadCrc = 0 ∧ u.nRc = 0 ∧ u.fresh = false ∧ ∀ k : Channel, u.readChannel k = none

/-- spec/41_frame_decoder.md R96, spec/70_reset_and_hazards.md R173: with fewer than 4 bytes no STEP is taken: the bytes stay, whatever
they are, nothing is counted and no channel can be read. -/
def Obligations.ScanLeavesFewerThanFourBytes : Prop :=
  ∀ s : State, s.cursor = none → s.buf.length < 4 →
    ∃ (v : Channels) (d : Nat), exec .scan s = .next
      { s with
        nSeen := 0, nValid := 0, nAddrRej := 0, nBadCrc := 0, nRc := 0, fresh := false
        ch := v, drawn := d, consumed := 0, status := .ok }

/-- spec/41_frame_decoder.md R109: of two channel-data frames back to back the values of the last stay, and `N_RC` is 2. -/
def Obligations.LastChannelFrameWins : Prop :=
  ∀ (s : State) (p q : Payload), s.cursor = none →
    s.buf = frameBytes s.params s.params.typeRc p.toList (crc8 (s.params.typeRc :: p.toList)) ++
      frameBytes s.params s.params.typeRc q.toList (crc8 (s.params.typeRc :: q.toList)) →
    ∃ d : Nat, exec .scan s = .next
      { s with
        buf := [], nSeen := 2, nValid := 2, nAddrRej := 0, nBadCrc := 0, nRc := 2, fresh := true
        ch := unpackChannels q, drawn := d, consumed := 52, status := .ok }

/-- spec/95_test_vectors.md section 4 (laws), spec/30_encoding.md R53: SCAN of one channel-data frame made from sixteen ticks delivers the
sixteen converted ticks and empties the buffer. -/
def Obligations.ScanOfPackedFrameDeliversTicks : Prop :=
  ∀ (s : State) (t : Vector Tick 16), s.cursor = none →
    s.buf = frameBytes s.params s.params.typeRc (packTicks t).toList
      (crc8 (s.params.typeRc :: (packTicks t).toList)) →
    ∃ u, exec .scan s = .next u ∧ u.buf = [] ∧ u.consumed = 26 ∧ u.nSeen = 1 ∧ u.nValid = 1 ∧ u.nRc = 1 ∧
      u.nAddrRej = 0 ∧ u.nBadCrc = 0 ∧ ∀ k : Channel, u.readChannel k = some (ticksToUs t[k])

/-- spec/20_memory.md R44, spec/41_frame_decoder.md R104: the scan tests are the only gate to the channels: when SCAN leaves FRESH set,
the buffer held a frame with the accepted address, length 24, the channel-data type and a matching CRC, and the channels are that
frame's. -/
def Obligations.FreshChannelsComeFromGatedFrame : Prop :=
  ∀ s t : State, s.buf.length ≤ Config.cap → exec .scan s = .next t → t.fresh = true →
    ∃ (n : Nat) (p : Payload) (r : Byte),
      s.buf.read n 26 = some (frameBytes s.params s.params.typeRc p.toList r) ∧
      crc8 (s.params.typeRc :: p.toList) = r ∧ n + 26 ≤ t.consumed.toNat ∧ t.ch = unpackChannels p

/-- spec/20_memory.md R46, spec/10_state.md R28: SCAN sees the buffer only: two states with the same parameters and buffer, whatever was
evicted, consumed, cleared or counted before, get the same residue, outcome and result. -/
def Obligations.ScanDependsOnBufferOnly : Prop :=
  ∀ s₁ s₂ t₁ : State, s₁.params = s₂.params → s₁.buf = s₂.buf → s₁.cursor = s₂.cursor → s₁.buf.length ≤ Config.cap →
    exec .scan s₁ = .next t₁ →
    ∃ t₂, exec .scan s₂ = .next t₂ ∧ t₁.buf = t₂.buf ∧ t₁.consumed = t₂.consumed ∧ t₁.nSeen = t₂.nSeen ∧
      t₁.nValid = t₂.nValid ∧ t₁.nAddrRej = t₂.nAddrRej ∧ t₁.nBadCrc = t₂.nBadCrc ∧ t₁.nRc = t₂.nRc ∧
      t₁.fresh = t₂.fresh ∧ t₁.status = t₂.status ∧ ∀ k : Channel, t₁.readChannel k = t₂.readChannel k

/-- spec/41_frame_decoder.md R114: one bit flipped in the type, payload or crc of a valid frame makes the position a BAD_CRC that moves
the cursor by exactly 1, whatever follows the frame. -/
def Obligations.SingleBitErrorBecomesBadCrc : Prop :=
  ∀ (c : Params) (q : Position) (rest : List Byte) (j : Nat) (b : Fin 8),
    q.toInstr.wellFormed c = true → q.causeCode = 5 ∨ q.causeCode = 6 →
    2 ≤ j → j < (encodePosition c q).length →
    ∃ q', decodePosition c (flipBit (encodePosition c q) j b ++ rest) = some q' ∧ q'.causeCode = 4 ∧
      q'.advance = some 1

/-- spec/41_frame_decoder.md R110: however a byte sequence is cut into receive events none of which drops a byte, the STEP events other
than WAIT, with offsets counted from the start of the sequence, are those of one scan of the whole sequence, and so is the residue. -/
def Obligations.ScanIsChunkSizeIndependent : Prop :=
  ∀ (s u : State) (chunks : List (List Byte)) (es : List Event),
    s.cursor = none → s.buf = [] → receiveAll 0 chunks s = some (es, u) →
    es = decidedEvents 0 s.params chunks.flatten ∧
    u.buf = chunks.flatten.drop (scan s.params chunks.flatten).1

/-! ### The whole machine -/

/-- spec/60_exceptions.md R147, spec/40_reassembly_buffer.md R81, spec/41_frame_decoder.md R115: IDLE, FEED, SCAN, CLEAR and CRC8 are total:
between operations they complete with STATUS ok and no scan left in progress. -/
def Obligations.TotalCommandsAlwaysComplete : Prop :=
  ∀ (s : State) (bytes : List Byte) (i : Instr), s.cursor = none → s.buf.length ≤ Config.cap →
    i = .idle ∨ i = .feed bytes ∨ i = .scan ∨ i = .clear ∨ i = .crc8 bytes →
    ∃ t, exec i s = .next t ∧ t.status = .ok ∧ t.cursor = none ∧ t.buf.length ≤ Config.cap

/-- spec/10_state.md R24, R25: FRESH and CH are written only by SCAN (and the STEP of it that delivers a channel-data frame) and by
UNPACK. -/
def Obligations.FreshAndChannelsWrittenOnlyByScanAndUnpack : Prop :=
  ∀ (i : Instr) (s t : State), exec i s = .next t →
    i ≠ .scan → (∀ p, i ≠ .unpack p) → (∀ p c, i ≠ .rcChannels p c) → t.fresh = s.fresh ∧ t.ch = s.ch

/-- spec/10_state.md R23: the five counters change only by SCAN (and its STEPs): every other command leaves them. -/
def Obligations.CountersChangeOnlyByScan : Prop :=
  ∀ (i : Instr) (s t : State), exec i s = .next t → s.cursor = none → i ≠ .scan →
    t.nSeen = s.nSeen ∧ t.nValid = s.nValid ∧ t.nAddrRej = s.nAddrRej ∧ t.nBadCrc = s.nBadCrc ∧ t.nRc = s.nRc

/-- spec/10_state.md R33, spec/70_reset_and_hazards.md R162: no step changes a parameter, and no instruction touches what the host will
present. -/
def Obligations.ParametersNeverChange : Prop :=
  (∀ s t : State, step s = .next t → t.params = s.params) ∧
  ∀ (i : Instr) (s t : State), exec i s = .next t → t.params = s.params ∧ t.trace = s.trace

/-- The invariant holds after reset. -/
def Obligations.ResetSatisfiesInvariant : Prop := State.reset.Inv

/-- Every step keeps the invariant: `LEN ≤ CAP`, `POS ≤ LEN`, the laws of the outcome, and fresh channels in range (spec/10_state.md R20,
R22, R25; spec/41_frame_decoder.md R111, R112; spec/42_channel_unpacker.md R126). -/
def Obligations.StepKeepsInvariant : Prop :=
  ∀ s t : State, s.Inv → step s = .next t → t.Inv
end

