-- ==== Sys2Proof/Laws/State.lean ====
section
/-! SUPPORT. What each update of the state does to each field: one lemma a field and update, true by `rfl`. -/

namespace Sys2Proof.Machine

/-! ### clearOutcome: the entry actions of SCAN on the outcome -/

@[simp] theorem State.clearOutcome_params (s : State) : (s.clearOutcome).params = s.params := rfl
@[simp] theorem State.clearOutcome_buf (s : State) : (s.clearOutcome).buf = s.buf := rfl
@[simp] theorem State.clearOutcome_nSeen (s : State) : (s.clearOutcome).nSeen = 0 := rfl
@[simp] theorem State.clearOutcome_nValid (s : State) : (s.clearOutcome).nValid = 0 := rfl
@[simp] theorem State.clearOutcome_nAddrRej (s : State) : (s.clearOutcome).nAddrRej = 0 := rfl
@[simp] theorem State.clearOutcome_nBadCrc (s : State) : (s.clearOutcome).nBadCrc = 0 := rfl
@[simp] theorem State.clearOutcome_nRc (s : State) : (s.clearOutcome).nRc = 0 := rfl
@[simp] theorem State.clearOutcome_fresh (s : State) : (s.clearOutcome).fresh = false := rfl
@[simp] theorem State.clearOutcome_ch (s : State) : (s.clearOutcome).ch = drawChannels s.drawn := rfl
@[simp] theorem State.clearOutcome_status (s : State) : (s.clearOutcome).status = s.status := rfl
@[simp] theorem State.clearOutcome_dropped (s : State) : (s.clearOutcome).dropped = s.dropped := rfl
@[simp] theorem State.clearOutcome_consumed (s : State) : (s.clearOutcome).consumed = s.consumed := rfl
@[simp] theorem State.clearOutcome_crcOut (s : State) : (s.clearOutcome).crcOut = s.crcOut := rfl
@[simp] theorem State.clearOutcome_cursor (s : State) : (s.clearOutcome).cursor = s.cursor := rfl
@[simp] theorem State.clearOutcome_trace (s : State) : (s.clearOutcome).trace = s.trace := rfl
@[simp] theorem State.clearOutcome_drawn (s : State) : (s.clearOutcome).drawn = s.drawn + 1 := rfl

/-! ### beginScan: the entry of SCAN -/

@[simp] theorem State.beginScan_params (s : State) : (s.beginScan).params = s.params := rfl
@[simp] theorem State.beginScan_buf (s : State) : (s.beginScan).buf = s.buf := rfl
@[simp] theorem State.beginScan_nSeen (s : State) : (s.beginScan).nSeen = 0 := rfl
@[simp] theorem State.beginScan_nValid (s : State) : (s.beginScan).nValid = 0 := rfl
@[simp] theorem State.beginScan_nAddrRej (s : State) : (s.beginScan).nAddrRej = 0 := rfl
@[simp] theorem State.beginScan_nBadCrc (s : State) : (s.beginScan).nBadCrc = 0 := rfl
@[simp] theorem State.beginScan_nRc (s : State) : (s.beginScan).nRc = 0 := rfl
@[simp] theorem State.beginScan_fresh (s : State) : (s.beginScan).fresh = false := rfl
@[simp] theorem State.beginScan_ch (s : State) : (s.beginScan).ch = drawChannels s.drawn := rfl
@[simp] theorem State.beginScan_status (s : State) : (s.beginScan).status = s.status := rfl
@[simp] theorem State.beginScan_dropped (s : State) : (s.beginScan).dropped = s.dropped := rfl
@[simp] theorem State.beginScan_consumed (s : State) : (s.beginScan).consumed = s.consumed := rfl
@[simp] theorem State.beginScan_crcOut (s : State) : (s.beginScan).crcOut = s.crcOut := rfl
@[simp] theorem State.beginScan_cursor (s : State) : (s.beginScan).cursor = some 0 := rfl
@[simp] theorem State.beginScan_trace (s : State) : (s.beginScan).trace = s.trace := rfl
@[simp] theorem State.beginScan_drawn (s : State) : (s.beginScan).drawn = s.drawn + 1 := rfl

/-! ### countAddrRej: `N_ADDR_REJ + 1` -/

@[simp] theorem State.countAddrRej_params (s : State) : (s.countAddrRej).params = s.params := rfl
@[simp] theorem State.countAddrRej_buf (s : State) : (s.countAddrRej).buf = s.buf := rfl
@[simp] theorem State.countAddrRej_nSeen (s : State) : (s.countAddrRej).nSeen = s.nSeen := rfl
@[simp] theorem State.countAddrRej_nValid (s : State) : (s.countAddrRej).nValid = s.nValid := rfl
@[simp] theorem State.countAddrRej_nAddrRej (s : State) : (s.countAddrRej).nAddrRej = s.nAddrRej + 1 := rfl
@[simp] theorem State.countAddrRej_nBadCrc (s : State) : (s.countAddrRej).nBadCrc = s.nBadCrc := rfl
@[simp] theorem State.countAddrRej_nRc (s : State) : (s.countAddrRej).nRc = s.nRc := rfl
@[simp] theorem State.countAddrRej_fresh (s : State) : (s.countAddrRej).fresh = s.fresh := rfl
@[simp] theorem State.countAddrRej_ch (s : State) : (s.countAddrRej).ch = s.ch := rfl
@[simp] theorem State.countAddrRej_status (s : State) : (s.countAddrRej).status = s.status := rfl
@[simp] theorem State.countAddrRej_dropped (s : State) : (s.countAddrRej).dropped = s.dropped := rfl
@[simp] theorem State.countAddrRej_consumed (s : State) : (s.countAddrRej).consumed = s.consumed := rfl
@[simp] theorem State.countAddrRej_crcOut (s : State) : (s.countAddrRej).crcOut = s.crcOut := rfl
@[simp] theorem State.countAddrRej_cursor (s : State) : (s.countAddrRej).cursor = s.cursor := rfl
@[simp] theorem State.countAddrRej_trace (s : State) : (s.countAddrRej).trace = s.trace := rfl
@[simp] theorem State.countAddrRej_drawn (s : State) : (s.countAddrRej).drawn = s.drawn := rfl

/-! ### countSeen: `N_SEEN + 1` -/

@[simp] theorem State.countSeen_params (s : State) : (s.countSeen).params = s.params := rfl
@[simp] theorem State.countSeen_buf (s : State) : (s.countSeen).buf = s.buf := rfl
@[simp] theorem State.countSeen_nSeen (s : State) : (s.countSeen).nSeen = s.nSeen + 1 := rfl
@[simp] theorem State.countSeen_nValid (s : State) : (s.countSeen).nValid = s.nValid := rfl
@[simp] theorem State.countSeen_nAddrRej (s : State) : (s.countSeen).nAddrRej = s.nAddrRej := rfl
@[simp] theorem State.countSeen_nBadCrc (s : State) : (s.countSeen).nBadCrc = s.nBadCrc := rfl
@[simp] theorem State.countSeen_nRc (s : State) : (s.countSeen).nRc = s.nRc := rfl
@[simp] theorem State.countSeen_fresh (s : State) : (s.countSeen).fresh = s.fresh := rfl
@[simp] theorem State.countSeen_ch (s : State) : (s.countSeen).ch = s.ch := rfl
@[simp] theorem State.countSeen_status (s : State) : (s.countSeen).status = s.status := rfl
@[simp] theorem State.countSeen_dropped (s : State) : (s.countSeen).dropped = s.dropped := rfl
@[simp] theorem State.countSeen_consumed (s : State) : (s.countSeen).consumed = s.consumed := rfl
@[simp] theorem State.countSeen_crcOut (s : State) : (s.countSeen).crcOut = s.crcOut := rfl
@[simp] theorem State.countSeen_cursor (s : State) : (s.countSeen).cursor = s.cursor := rfl
@[simp] theorem State.countSeen_trace (s : State) : (s.countSeen).trace = s.trace := rfl
@[simp] theorem State.countSeen_drawn (s : State) : (s.countSeen).drawn = s.drawn := rfl

/-! ### countBadCrc: `N_BAD_CRC + 1` -/

@[simp] theorem State.countBadCrc_params (s : State) : (s.countBadCrc).params = s.params := rfl
@[simp] theorem State.countBadCrc_buf (s : State) : (s.countBadCrc).buf = s.buf := rfl
@[simp] theorem State.countBadCrc_nSeen (s : State) : (s.countBadCrc).nSeen = s.nSeen := rfl
@[simp] theorem State.countBadCrc_nValid (s : State) : (s.countBadCrc).nValid = s.nValid := rfl
@[simp] theorem State.countBadCrc_nAddrRej (s : State) : (s.countBadCrc).nAddrRej = s.nAddrRej := rfl
@[simp] theorem State.countBadCrc_nBadCrc (s : State) : (s.countBadCrc).nBadCrc = s.nBadCrc + 1 := rfl
@[simp] theorem State.countBadCrc_nRc (s : State) : (s.countBadCrc).nRc = s.nRc := rfl
@[simp] theorem State.countBadCrc_fresh (s : State) : (s.countBadCrc).fresh = s.fresh := rfl
@[simp] theorem State.countBadCrc_ch (s : State) : (s.countBadCrc).ch = s.ch := rfl
@[simp] theorem State.countBadCrc_status (s : State) : (s.countBadCrc).status = s.status := rfl
@[simp] theorem State.countBadCrc_dropped (s : State) : (s.countBadCrc).dropped = s.dropped := rfl
@[simp] theorem State.countBadCrc_consumed (s : State) : (s.countBadCrc).consumed = s.consumed := rfl
@[simp] theorem State.countBadCrc_crcOut (s : State) : (s.countBadCrc).crcOut = s.crcOut := rfl
@[simp] theorem State.countBadCrc_cursor (s : State) : (s.countBadCrc).cursor = s.cursor := rfl
@[simp] theorem State.countBadCrc_trace (s : State) : (s.countBadCrc).trace = s.trace := rfl
@[simp] theorem State.countBadCrc_drawn (s : State) : (s.countBadCrc).drawn = s.drawn := rfl

/-! ### countValid: `N_VALID + 1` -/

@[simp] theorem State.countValid_params (s : State) : (s.countValid).params = s.params := rfl
@[simp] theorem State.countValid_buf (s : State) : (s.countValid).buf = s.buf := rfl
@[simp] theorem State.countValid_nSeen (s : State) : (s.countValid).nSeen = s.nSeen := rfl
@[simp] theorem State.countValid_nValid (s : State) : (s.countValid).nValid = s.nValid + 1 := rfl
@[simp] theorem State.countValid_nAddrRej (s : State) : (s.countValid).nAddrRej = s.nAddrRej := rfl
@[simp] theorem State.countValid_nBadCrc (s : State) : (s.countValid).nBadCrc = s.nBadCrc := rfl
@[simp] theorem State.countValid_nRc (s : State) : (s.countValid).nRc = s.nRc := rfl
@[simp] theorem State.countValid_fresh (s : State) : (s.countValid).fresh = s.fresh := rfl
@[simp] theorem State.countValid_ch (s : State) : (s.countValid).ch = s.ch := rfl
@[simp] theorem State.countValid_status (s : State) : (s.countValid).status = s.status := rfl
@[simp] theorem State.countValid_dropped (s : State) : (s.countValid).dropped = s.dropped := rfl
@[simp] theorem State.countValid_consumed (s : State) : (s.countValid).consumed = s.consumed := rfl
@[simp] theorem State.countValid_crcOut (s : State) : (s.countValid).crcOut = s.crcOut := rfl
@[simp] theorem State.countValid_cursor (s : State) : (s.countValid).cursor = s.cursor := rfl
@[simp] theorem State.countValid_trace (s : State) : (s.countValid).trace = s.trace := rfl
@[simp] theorem State.countValid_drawn (s : State) : (s.countValid).drawn = s.drawn := rfl

/-! ### countRc: `N_RC + 1` -/

@[simp] theorem State.countRc_params (s : State) : (s.countRc).params = s.params := rfl
@[simp] theorem State.countRc_buf (s : State) : (s.countRc).buf = s.buf := rfl
@[simp] theorem State.countRc_nSeen (s : State) : (s.countRc).nSeen = s.nSeen := rfl
@[simp] theorem State.countRc_nValid (s : State) : (s.countRc).nValid = s.nValid := rfl
@[simp] theorem State.countRc_nAddrRej (s : State) : (s.countRc).nAddrRej = s.nAddrRej := rfl
@[simp] theorem State.countRc_nBadCrc (s : State) : (s.countRc).nBadCrc = s.nBadCrc := rfl
@[simp] theorem State.countRc_nRc (s : State) : (s.countRc).nRc = s.nRc + 1 := rfl
@[simp] theorem State.countRc_fresh (s : State) : (s.countRc).fresh = s.fresh := rfl
@[simp] theorem State.countRc_ch (s : State) : (s.countRc).ch = s.ch := rfl
@[simp] theorem State.countRc_status (s : State) : (s.countRc).status = s.status := rfl
@[simp] theorem State.countRc_dropped (s : State) : (s.countRc).dropped = s.dropped := rfl
@[simp] theorem State.countRc_consumed (s : State) : (s.countRc).consumed = s.consumed := rfl
@[simp] theorem State.countRc_crcOut (s : State) : (s.countRc).crcOut = s.crcOut := rfl
@[simp] theorem State.countRc_cursor (s : State) : (s.countRc).cursor = s.cursor := rfl
@[simp] theorem State.countRc_trace (s : State) : (s.countRc).trace = s.trace := rfl
@[simp] theorem State.countRc_drawn (s : State) : (s.countRc).drawn = s.drawn := rfl

/-! ### deliver: the delivery of a payload -/

@[simp] theorem State.deliver_params (s : State) (p : Payload) : (s.deliver p).params = s.params := rfl
@[simp] theorem State.deliver_buf (s : State) (p : Payload) : (s.deliver p).buf = s.buf := rfl
@[simp] theorem State.deliver_nSeen (s : State) (p : Payload) : (s.deliver p).nSeen = s.nSeen := rfl
@[simp] theorem State.deliver_nValid (s : State) (p : Payload) : (s.deliver p).nValid = s.nValid := rfl
@[simp] theorem State.deliver_nAddrRej (s : State) (p : Payload) : (s.deliver p).nAddrRej = s.nAddrRej := rfl
@[simp] theorem State.deliver_nBadCrc (s : State) (p : Payload) : (s.deliver p).nBadCrc = s.nBadCrc := rfl
@[simp] theorem State.deliver_nRc (s : State) (p : Payload) : (s.deliver p).nRc = s.nRc := rfl
@[simp] theorem State.deliver_fresh (s : State) (p : Payload) : (s.deliver p).fresh = true := rfl
@[simp] theorem State.deliver_ch (s : State) (p : Payload) : (s.deliver p).ch = unpackChannels p := rfl
@[simp] theorem State.deliver_status (s : State) (p : Payload) : (s.deliver p).status = s.status := rfl
@[simp] theorem State.deliver_dropped (s : State) (p : Payload) : (s.deliver p).dropped = s.dropped := rfl
@[simp] theorem State.deliver_consumed (s : State) (p : Payload) : (s.deliver p).consumed = s.consumed := rfl
@[simp] theorem State.deliver_crcOut (s : State) (p : Payload) : (s.deliver p).crcOut = s.crcOut := rfl
@[simp] theorem State.deliver_cursor (s : State) (p : Payload) : (s.deliver p).cursor = s.cursor := rfl
@[simp] theorem State.deliver_trace (s : State) (p : Payload) : (s.deliver p).trace = s.trace := rfl
@[simp] theorem State.deliver_drawn (s : State) (p : Payload) : (s.deliver p).drawn = s.drawn := rfl

/-! ### refuse: a refusal -/

@[simp] theorem State.refuse_params (s : State) (why : Reason) : (s.refuse why).params = s.params := rfl
@[simp] theorem State.refuse_buf (s : State) (why : Reason) : (s.refuse why).buf = s.buf := rfl
@[simp] theorem State.refuse_nSeen (s : State) (why : Reason) : (s.refuse why).nSeen = s.nSeen := rfl
@[simp] theorem State.refuse_nValid (s : State) (why : Reason) : (s.refuse why).nValid = s.nValid := rfl
@[simp] theorem State.refuse_nAddrRej (s : State) (why : Reason) : (s.refuse why).nAddrRej = s.nAddrRej := rfl
@[simp] theorem State.refuse_nBadCrc (s : State) (why : Reason) : (s.refuse why).nBadCrc = s.nBadCrc := rfl
@[simp] theorem State.refuse_nRc (s : State) (why : Reason) : (s.refuse why).nRc = s.nRc := rfl
@[simp] theorem State.refuse_fresh (s : State) (why : Reason) : (s.refuse why).fresh = s.fresh := rfl
@[simp] theorem State.refuse_ch (s : State) (why : Reason) : (s.refuse why).ch = s.ch := rfl
@[simp] theorem State.refuse_status (s : State) (why : Reason) : (s.refuse why).status = .refused why := rfl
@[simp] theorem State.refuse_dropped (s : State) (why : Reason) : (s.refuse why).dropped = s.dropped := rfl
@[simp] theorem State.refuse_consumed (s : State) (why : Reason) : (s.refuse why).consumed = s.consumed := rfl
@[simp] theorem State.refuse_crcOut (s : State) (why : Reason) : (s.refuse why).crcOut = s.crcOut := rfl
@[simp] theorem State.refuse_cursor (s : State) (why : Reason) : (s.refuse why).cursor = s.cursor := rfl
@[simp] theorem State.refuse_trace (s : State) (why : Reason) : (s.refuse why).trace = s.trace := rfl
@[simp] theorem State.refuse_drawn (s : State) (why : Reason) : (s.refuse why).drawn = s.drawn := rfl

/-! ### succeed: `STATUS <- ok` -/

@[simp] theorem State.succeed_params (s : State) : (s.succeed).params = s.params := rfl
@[simp] theorem State.succeed_buf (s : State) : (s.succeed).buf = s.buf := rfl
@[simp] theorem State.succeed_nSeen (s : State) : (s.succeed).nSeen = s.nSeen := rfl
@[simp] theorem State.succeed_nValid (s : State) : (s.succeed).nValid = s.nValid := rfl
@[simp] theorem State.succeed_nAddrRej (s : State) : (s.succeed).nAddrRej = s.nAddrRej := rfl
@[simp] theorem State.succeed_nBadCrc (s : State) : (s.succeed).nBadCrc = s.nBadCrc := rfl
@[simp] theorem State.succeed_nRc (s : State) : (s.succeed).nRc = s.nRc := rfl
@[simp] theorem State.succeed_fresh (s : State) : (s.succeed).fresh = s.fresh := rfl
@[simp] theorem State.succeed_ch (s : State) : (s.succeed).ch = s.ch := rfl
@[simp] theorem State.succeed_status (s : State) : (s.succeed).status = .ok := rfl
@[simp] theorem State.succeed_dropped (s : State) : (s.succeed).dropped = s.dropped := rfl
@[simp] theorem State.succeed_consumed (s : State) : (s.succeed).consumed = s.consumed := rfl
@[simp] theorem State.succeed_crcOut (s : State) : (s.succeed).crcOut = s.crcOut := rfl
@[simp] theorem State.succeed_cursor (s : State) : (s.succeed).cursor = s.cursor := rfl
@[simp] theorem State.succeed_trace (s : State) : (s.succeed).trace = s.trace := rfl
@[simp] theorem State.succeed_drawn (s : State) : (s.succeed).drawn = s.drawn := rfl

/-! ### moveCursor: a move of the cursor -/

@[simp] theorem State.moveCursor_params (s : State) (pos : Count) (n : Nat) : (s.moveCursor pos n).params = s.params := rfl
@[simp] theorem State.moveCursor_buf (s : State) (pos : Count) (n : Nat) : (s.moveCursor pos n).buf = s.buf := rfl
@[simp] theorem State.moveCursor_nSeen (s : State) (pos : Count) (n : Nat) : (s.moveCursor pos n).nSeen = s.nSeen := rfl
@[simp] theorem State.moveCursor_nValid (s : State) (pos : Count) (n : Nat) : (s.moveCursor pos n).nValid = s.nValid := rfl
@[simp] theorem State.moveCursor_nAddrRej (s : State) (pos : Count) (n : Nat) : (s.moveCursor pos n).nAddrRej = s.nAddrRej := rfl
@[simp] theorem State.moveCursor_nBadCrc (s : State) (pos : Count) (n : Nat) : (s.moveCursor pos n).nBadCrc = s.nBadCrc := rfl
@[simp] theorem State.moveCursor_nRc (s : State) (pos : Count) (n : Nat) : (s.moveCursor pos n).nRc = s.nRc := rfl
@[simp] theorem State.moveCursor_fresh (s : State) (pos : Count) (n : Nat) : (s.moveCursor pos n).fresh = s.fresh := rfl
@[simp] theorem State.moveCursor_ch (s : State) (pos : Count) (n : Nat) : (s.moveCursor pos n).ch = s.ch := rfl
@[simp] theorem State.moveCursor_status (s : State) (pos : Count) (n : Nat) : (s.moveCursor pos n).status = s.status := rfl
@[simp] theorem State.moveCursor_dropped (s : State) (pos : Count) (n : Nat) : (s.moveCursor pos n).dropped = s.dropped := rfl
@[simp] theorem State.moveCursor_consumed (s : State) (pos : Count) (n : Nat) : (s.moveCursor pos n).consumed = s.consumed := rfl
@[simp] theorem State.moveCursor_crcOut (s : State) (pos : Count) (n : Nat) : (s.moveCursor pos n).crcOut = s.crcOut := rfl
@[simp] theorem State.moveCursor_cursor (s : State) (pos : Count) (n : Nat) : (s.moveCursor pos n).cursor = some (pos + BitVec.ofNat 13 n) := rfl
@[simp] theorem State.moveCursor_trace (s : State) (pos : Count) (n : Nat) : (s.moveCursor pos n).trace = s.trace := rfl
@[simp] theorem State.moveCursor_drawn (s : State) (pos : Count) (n : Nat) : (s.moveCursor pos n).drawn = s.drawn := rfl

/-! ### applyReset: reset applied by the host -/

@[simp] theorem State.applyReset_params (s : State) : (s.applyReset).params = s.params := rfl
@[simp] theorem State.applyReset_buf (s : State) : (s.applyReset).buf = [] := rfl
@[simp] theorem State.applyReset_nSeen (s : State) : (s.applyReset).nSeen = 0 := rfl
@[simp] theorem State.applyReset_nValid (s : State) : (s.applyReset).nValid = 0 := rfl
@[simp] theorem State.applyReset_nAddrRej (s : State) : (s.applyReset).nAddrRej = 0 := rfl
@[simp] theorem State.applyReset_nBadCrc (s : State) : (s.applyReset).nBadCrc = 0 := rfl
@[simp] theorem State.applyReset_nRc (s : State) : (s.applyReset).nRc = 0 := rfl
@[simp] theorem State.applyReset_fresh (s : State) : (s.applyReset).fresh = false := rfl
@[simp] theorem State.applyReset_ch (s : State) : (s.applyReset).ch = drawChannels s.drawn := rfl
@[simp] theorem State.applyReset_status (s : State) : (s.applyReset).status = .ok := rfl
@[simp] theorem State.applyReset_dropped (s : State) : (s.applyReset).dropped = 0 := rfl
@[simp] theorem State.applyReset_consumed (s : State) : (s.applyReset).consumed = 0 := rfl
@[simp] theorem State.applyReset_crcOut (s : State) : (s.applyReset).crcOut = Config.freeCrc s.drawn := rfl
@[simp] theorem State.applyReset_cursor (s : State) : (s.applyReset).cursor = none := rfl
@[simp] theorem State.applyReset_trace (s : State) : (s.applyReset).trace = s.trace := rfl
@[simp] theorem State.applyReset_drawn (s : State) : (s.applyReset).drawn = s.drawn + 1 := rfl

end Sys2Proof.Machine
end

