-- ==== Sys2Proof/Laws/Ops.lean ====
section
/-! SUPPORT. What each shared operation can do, said once: the guards, the end of a scan, and the buffer's operations with its form. -/

namespace Sys2Proof.Machine

/-! ### The guards -/

theorem State.atRest_of_none {s : State} (h : s.cursor = none) (run : Result) : s.atRest run = run := by
  simp [State.atRest, h]

theorem State.atRest_of_some {s : State} {c : Count} (h : s.cursor = some c) (run : Result) :
    s.atRest run = .refused .operationInProgress := by
  simp [State.atRest, h]

theorem State.atCursor_of_some {s : State} {c : Count} (h : s.cursor = some c) (run : Count → Result) :
    s.atCursor run = run c := by
  simp [State.atCursor, h]

theorem State.atCursor_of_none {s : State} (h : s.cursor = none) (run : Count → Result) :
    s.atCursor run = .refused .noScanInProgress := by
  simp [State.atCursor, h]

/-- A host command answers a next state only between operations, and then what it runs answers it. -/
theorem State.atRest_next {s t : State} {run : Result} (h : s.atRest run = .next t) :
    s.cursor = none ∧ run = .next t := by
  unfold State.atRest at h
  split at h
  · exact ⟨by assumption, h⟩
  · cases h

/-- A STEP answers a next state only at a cursor, and then what it runs there answers it. -/
theorem State.atCursor_next {s t : State} {run : Count → Result} (h : s.atCursor run = .next t) :
    ∃ pos, s.cursor = some pos ∧ run pos = .next t := by
  unfold State.atCursor at h
  split at h
  · cases h
  · exact ⟨_, by assumption, h⟩

/-! ### CONSUME and the end of a scan -/

theorem Memory.consume_of_le {m : Memory} {n : Nat} (h : n ≤ m.length) : m.consume n = .ok (m.drop n) := by
  simp [Memory.consume, h]

theorem Memory.consume_of_lt {m : Memory} {n : Nat} (h : m.length < n) : m.consume n = .error .consumePastEnd := by
  simp [Memory.consume, h]

/-- The end of a scan inside the buffer (spec/41_frame_decoder.md R106). -/
theorem State.endScan_of_le {s : State} {pos : Count} (h : s.cursor = some pos) (hle : pos.toNat ≤ s.buf.length) :
    s.endScan =
      .next { s with buf := s.buf.drop pos.toNat, consumed := pos, cursor := none, status := .ok } := by
  simp [State.endScan, State.atCursor_of_some h, Memory.consume_of_le hle]

/-- All that the end of a scan can do when it answers a next state. -/
theorem State.endScan_next {s t : State} (h : s.endScan = .next t) :
    ∃ pos, s.cursor = some pos ∧ pos.toNat ≤ s.buf.length ∧
      t = { s with buf := s.buf.drop pos.toNat, consumed := pos, cursor := none, status := .ok } := by
  obtain ⟨pos, hc, hr⟩ := State.atCursor_next h
  rcases Nat.lt_or_ge s.buf.length pos.toNat with hlt | hle
  · rw [Memory.consume_of_lt hlt] at hr
    cases hr
  · rw [Memory.consume_of_le hle] at hr
    cases hr
    exact ⟨pos, hc, hle, rfl⟩

/-! ### The form of the buffer -/

theorem Memory.wf_iff (m : Memory) : m.wf = true ↔ m.length ≤ 4096 := decide_eq_true_iff

/-- What fits does not overflow. -/
theorem overflow_of_le {n : Nat} (h : n ≤ Config.cap) : overflow n = 0 := by
  rw [overflow, Nat.min_eq_left h, Nat.sub_self]

/-- What does not fit overflows by the rest. (Use this and `overflow_of_le`, not a subtraction of the literal capacity, which the
kernel would unfold one by one.) -/
theorem overflow_add_cap {n : Nat} (h : Config.cap ≤ n) : overflow n + Config.cap = n := by
  rw [overflow, Nat.min_eq_right h, Nat.sub_add_cancel h]

/-- FEED keeps the bound whatever the buffer was (spec/40_reassembly_buffer.md R81). -/
theorem Memory.feed_wf (m : Memory) (chunk : List Byte) : (m.feed chunk).wf = true := by
  rw [Memory.wf_iff]
  simp only [Memory.feed, evictedBy, cutFromChunk, overflow, Config.cap, List.length_append, List.length_drop]
  omega

theorem Memory.consume_wf {m r : Memory} {n : Nat} (hm : m.wf = true) (h : m.consume n = .ok r) : r.wf = true := by
  rw [Memory.wf_iff] at hm ⊢
  unfold Memory.consume at h
  split at h
  · cases h
    simp only [List.length_drop]
    omega
  · cases h

theorem Memory.nil_wf : Memory.wf [] = true := by decide

theorem Memory.drop_wf {m : Memory} (n : Nat) (hm : m.wf = true) : Memory.wf (m.drop n) = true := by
  rw [Memory.wf_iff] at hm ⊢
  simp only [List.length_drop]
  omega

theorem State.reset_buf_wf : State.reset.buf.wf = true := Memory.nil_wf

/-- The cell of the buffer at each offset (assumption 2). -/
theorem Memory.cells_getElem? (m : Memory) (a i : Nat) : (m.cells a)[i]? = m[i]?.map fun b => (a + i, b) := by
  induction m generalizing a i with
  | nil => simp [Memory.cells]
  | cons b m ih =>
    cases i with
    | zero => simp [Memory.cells]
    | succ i => simp [Memory.cells, ih, Nat.add_comm 1 i, Nat.add_assoc]

theorem Memory.cells_ge (m : Memory) (a : Nat) : ∀ x ∈ m.cells a, a ≤ x.1 := by
  induction m generalizing a with
  | nil => simp [Memory.cells]
  | cons b m ih =>
    intro x hx
    rcases List.mem_cons.mp hx with rfl | hx
    · exact Nat.le_refl a
    · exact Nat.le_of_succ_le (ih (a + 1) x hx)

/-- The buffer as cells has strictly rising addresses: it is its own canonical form (assumption 2). -/
theorem Memory.cells_strictly_rising (m : Memory) (a : Nat) : (m.cells a).Pairwise fun x y => x.1 < y.1 := by
  induction m generalizing a with
  | nil => simp [Memory.cells]
  | cons b m ih =>
    refine List.pairwise_cons.mpr ⟨fun x hx => ?_, ih (a + 1)⟩
    exact Memory.cells_ge m (a + 1) x hx

/-! ### Reads -/

/-- What `MemRead` gives when it gives something (spec/20_memory.md R36). -/
theorem Memory.read_eq_some {m : Memory} {off n : Nat} {bytes : List Byte} (h : m.read off n = some bytes) :
    off + n ≤ m.length ∧ bytes = (m.drop off).take n := by
  unfold Memory.read at h
  split at h
  · exact ⟨by assumption, (Option.some.inj h).symm⟩
  · cases h

end Sys2Proof.Machine
end

