-- ==== Sys2Proof/Laws/Scan.lean ====
section
/-! SUPPORT. What a STEP can do, what a position can be, and the rounds of SCAN's loop, each said once. -/

namespace Sys2Proof.Machine

/-- The outcome after the STEP of a position (spec/60_exceptions.md R141, "record"). -/
def recordPosition (q : Position) (s : State) : State :=
  match q with
  | .addrReject _ => s.countAddrRej
  | .lenReject _ => s
  | .wait _ => s
  | .badCrc .. => s.countSeen.countBadCrc
  | .rcChannels p _ => s.countSeen.countValid.countRc.deliver p
  | .validIgnored .. => s.countSeen.countValid

/-- The instruction of a position means the STEP of that position. -/
theorem exec_toInstr (q : Position) (s : State) : exec q.toInstr s = stepPosition q s := by
  cases q <;> rfl

/-- A STEP that goes on: its record, and the cursor moved by its advance. -/
theorem stepPosition_of_advance {q : Position} {s : State} {pos : Count} {k : Nat} (hc : s.cursor = some pos)
    (hk : q.advance = some k) : stepPosition q s = .next ((recordPosition q s).moveCursor pos k) := by
  cases q <;> cases hk <;>
    simp [stepPosition, execAddrReject, execLenReject, execBadCrc, execRcChannels, execValidIgnored,
      State.atCursor_of_some hc, recordPosition]

/-- A STEP that does not go on is the end of the scan. -/
theorem stepPosition_of_stop {q : Position} {s : State} (hk : q.advance = none) : stepPosition q s = s.endScan := by
  cases q <;> cases hk
  rfl

/-- The record of a STEP leaves everything but the outcome. -/
theorem recordPosition_frame (q : Position) (s : State) :
    (recordPosition q s).params = s.params ∧ (recordPosition q s).buf = s.buf ∧
    (recordPosition q s).cursor = s.cursor ∧ (recordPosition q s).status = s.status ∧
    (recordPosition q s).dropped = s.dropped ∧ (recordPosition q s).consumed = s.consumed ∧
    (recordPosition q s).crcOut = s.crcOut ∧ (recordPosition q s).trace = s.trace ∧
    (recordPosition q s).drawn = s.drawn := by
  cases q <;> simp [recordPosition]

/-! ### What a position can be -/

/-- A complete candidate is one of the three classes after the availability test (spec/41_frame_decoder.md R101 to R104). -/
theorem decodeCandidate_cases (c : Params) (t : Byte) (p : List Byte) (r : Byte) :
    (crc8 (t :: p) ≠ r ∧ decodeCandidate c t p r = .badCrc t p r) ∨
    (∃ v : Payload, v.toList = p ∧ t = c.typeRc ∧ crc8 (t :: p) = r ∧ decodeCandidate c t p r = .rcChannels v r) ∨
    (crc8 (t :: p) = r ∧ (t ≠ c.typeRc ∨ p.length ≠ 22) ∧ decodeCandidate c t p r = .validIgnored t p r) := by
  unfold decodeCandidate
  split
  · exact .inl ⟨by assumption, rfl⟩
  · rename_i hcrc
    rw [not_not] at hcrc
    split
    · rename_i h
      exact .inr (.inl ⟨_, rfl, h.1, hcrc, rfl⟩)
    · rename_i h
      exact .inr (.inr ⟨hcrc, by tauto, rfl⟩)

/-- A decoded position stands on at least 4 bytes, and its advance is at least 1 and stays inside them
(spec/41_frame_decoder.md R96, R112). -/
theorem decodePosition_advance {c : Params} {bytes : List Byte} {q : Position} (h : decodePosition c bytes = some q) :
    4 ≤ bytes.length ∧ ∀ k, q.advance = some k → 1 ≤ k ∧ k ≤ bytes.length := by
  match bytes, h with
  | a :: l :: t :: x :: more, h =>
    simp only [decodePosition] at h
    refine ⟨by simp, ?_⟩
    split at h
    · cases h
      simp [Position.advance]
    split at h
    · cases h
      simp [Position.advance]
    split at h
    · cases h
      simp [Position.advance]
    · rename_i hlen havail
      simp only [Config.lenMin, Config.lenMax, not_or, Nat.not_lt] at hlen havail
      cases h
      intro k hk
      have hp : ((x :: more).take (l.toNat - 2)).length = l.toNat - 2 := by
        simp only [List.length_take, List.length_cons]
        omega
      rcases decodeCandidate_cases c t ((x :: more).take (l.toNat - 2)) ((x :: more).getD (l.toNat - 2) 0) with
        ⟨_, hd⟩ | ⟨v, hv, _, _, hd⟩ | ⟨_, _, hd⟩
      · rw [hd] at hk
        cases hk
        simp
      · rw [hd] at hk
        cases hk
        have hv' := congrArg List.length hv
        rw [hp, Vector.length_toList] at hv'
        simp only [List.length_cons]
        omega
      · rw [hd] at hk
        cases hk
        rw [hp]
        simp only [List.length_cons]
        omega

/-! ### The rounds of the loop -/

theorem scanLoop_of_rest {s : State} (n : Nat) (h : s.cursor = none) : scanLoop n s = .next s := by
  cases n <;> simp [scanLoop, h]

theorem scanLoop_of_end {s : State} {pos : Count} (n : Nat) (hc : s.cursor = some pos) (hp : s.positionAt pos = none) :
    scanLoop (n + 1) s = s.endScan := by
  simp [scanLoop, hc, hp]

/-- A round whose position stops the scan ends it. -/
theorem scanLoop_of_stop {s : State} {pos : Count} {q : Position} (n : Nat) (hc : s.cursor = some pos)
    (hp : s.positionAt pos = some q) (hk : q.advance = none) : scanLoop (n + 1) s = s.endScan := by
  simp only [scanLoop, hc, hp, stepPosition_of_stop hk]
  cases he : s.endScan with
  | next t =>
    obtain ⟨_, _, _, rfl⟩ := State.endScan_next he
    simp [scanLoop_of_rest]
  | fault f => rfl
  | refused r => rfl

/-- A round whose position goes on is followed by the rest of the rounds. -/
theorem scanLoop_of_advance {s : State} {pos : Count} {q : Position} {k : Nat} (n : Nat) (hc : s.cursor = some pos)
    (hp : s.positionAt pos = some q) (hk : q.advance = some k) :
    scanLoop (n + 1) s = scanLoop n ((recordPosition q s).moveCursor pos k) := by
  simp only [scanLoop, hc, hp, stepPosition_of_advance hc hk]

/-- SCAN between operations is its loop from the entry of SCAN. -/
theorem execScan_of_rest {s : State} (h : s.cursor = none) :
    exec .scan s = scanLoop (s.buf.length + 1) s.beginScan := by
  simp [exec, execScan, State.atRest_of_none h]

/-- SCAN answers a next state only between operations. -/
theorem execScan_next {s t : State} (h : exec .scan s = .next t) :
    s.cursor = none ∧ scanLoop (s.buf.length + 1) s.beginScan = .next t :=
  State.atRest_next h

/-- The two cases of a step with a SCAN in progress. -/
theorem step_at_cursor {s : State} {pos : Count} (hc : s.cursor = some pos) :
    step s = match s.positionAt pos with
      | some q => stepPosition q s
      | none => s.endScan := by
  simp only [step, hc]
  split <;> simp_all [exec_toInstr]

end Sys2Proof.Machine
end

