-- ==== Sys2Proof/Laws/PerInstr.lean ====
section
/-! SUPPORT. One lemma for each constructor of `Instr`: the shape of its encoding (LAWS.json, "EncodedShape"). -/

namespace Sys2Proof.Laws.EncodedShape

/-- The encoding of a well-formed instruction has its row's shape: a command word decodes to the command
(spec/30_encoding.md R58); position bytes are at most 64, and a whole frame is two bytes longer than its length byte says
(spec/30_encoding.md R51, R52). -/
def Statement (i : Instr) : Prop :=
  ∀ c : Params, i.wellFormed c = true →
    match encode c i with
    | .command w => decodeCommand w = .ok i
    | .stream bytes => 1 ≤ bytes.length ∧ bytes.length ≤ 64 ∧
        (3 ≤ bytes.length → bytes.length = (bytes.getD 1 0).toNat + 2)

theorem idle : Statement .idle := fun _ _ => rfl
theorem feed (chunk : List Byte) : Statement (.feed chunk) := fun _ _ => rfl
theorem scan : Statement .scan := fun _ _ => rfl
theorem clear : Statement .clear := fun _ _ => rfl
theorem unpack (p : List Byte) : Statement (.unpack p) := fun _ _ => rfl
theorem crc8 (s : List Byte) : Statement (.crc8 s) := fun _ _ => rfl
theorem reserved110 (o : List Byte) : Statement (.reserved110 o) := fun _ _ => rfl
theorem reserved111 (o : List Byte) : Statement (.reserved111 o) := fun _ _ => rfl

theorem addrReject (a : Byte) : Statement (.addrReject a) := fun c _ => by simp [encode, encodePosition]
theorem lenReject (l : Byte) : Statement (.lenReject l) := fun c _ => by simp [encode, encodePosition]
theorem wait (l : Byte) : Statement (.wait l) := fun c _ => by simp [encode, encodePosition]

/-- The shape of a frame whose payload is legal. -/
theorem frame_shape {c : Params} {t r : Byte} {p : List Byte} (h : p.length + 2 ≤ 62) :
    1 ≤ (frameBytes c t p r).length ∧ (frameBytes c t p r).length ≤ 64 ∧
      (3 ≤ (frameBytes c t p r).length →
        (frameBytes c t p r).length = ((frameBytes c t p r).getD 1 0).toNat + 2) := by
  simp [frameBytes]
  omega

theorem legalPayload_le {p : List Byte} (h : legalPayload p = true) : p.length + 2 ≤ 62 := of_decide_eq_true h

theorem badCrc (t : Byte) (p : List Byte) (r : Byte) : Statement (.badCrc t p r) := fun c h => by
  simp only [Instr.wellFormed, Bool.and_eq_true] at h
  exact frame_shape (legalPayload_le h.1)

theorem rcChannels (p : Payload) (r : Byte) : Statement (.rcChannels p r) := fun c _ =>
  frame_shape (by simp)

theorem validIgnored (t : Byte) (p : List Byte) (r : Byte) : Statement (.validIgnored t p r) := fun c h => by
  simp only [Instr.wellFormed, Bool.and_eq_true] at h
  exact frame_shape (legalPayload_le h.1.1)

end Sys2Proof.Laws.EncodedShape
end

