-- ==== Sys2Proof/Tests/Slice0.lean ====
section
/-! SUPPORT. Tests of the model on values taken from the spec's own vectors (spec/95_test_vectors.md) and worked examples, the refusals of
`WellFormed`, and for every statement with hypotheses a state and operands that meet them. -/

namespace Sys2Proof.Tests

open Sys2Proof Sys2Proof.Machine

/-! ### Helpers -/

/-- A state between operations with the given buffer. -/
def atRestWith (b : List Byte) : State := { State.reset with buf := b }

/-- A state with a SCAN in progress at `pos` in the given buffer. -/
def inScanWith (b : List Byte) (pos : Count) : State := { State.reset with buf := b, cursor := some pos }

/-- What `f` reads from the next state, none where there is no next state. -/
def after {α : Type} (r : Result) (f : State → α) : Option α :=
  match r with
  | .next t => some (f t)
  | .fault _ => none
  | .refused _ => none

/-- The five counters, in the order of the vectors: seen, valid, address rejects, bad CRC, channel frames. -/
def counters (s : State) : List Count := [s.nSeen, s.nValid, s.nAddrRej, s.nBadCrc, s.nRc]

/-- `P992`: all ticks 992. -/
def p992 : List Byte :=
  [0xE0, 0x03, 0x1F, 0xF8, 0xC0, 0x07, 0x3E, 0xF0, 0x81, 0x0F, 0x7C] ++
  [0xE0, 0x03, 0x1F, 0xF8, 0xC0, 0x07, 0x3E, 0xF0, 0x81, 0x0F, 0x7C]

/-- `PMIX`: mixed ticks. -/
def pmix : List Byte :=
  [0x00, 0xF8, 0x3F, 0xF8, 0x58, 0x31, 0xF1, 0x00, 0x00, 0xB0, 0xAA] ++
  [0xAA, 0xF2, 0xFF, 0xF7, 0xC2, 0x47, 0x1F, 0xEE, 0x1E, 0x00, 0xE0]

/-- `F992`, `FMIX`, `FMIN`, `FLS`. -/
def f992 : List Byte := [0xC8, 0x18, 0x16] ++ p992 ++ [0xAD]
def fmix : List Byte := [0xC8, 0x18, 0x16] ++ pmix ++ [0x0C]
def fmin : List Byte := [0xC8, 0x02, 0x3A, 0xA0]
def fls : List Byte := [0xC8, 0x0C, 0x14, 0x10, 0x20, 0x64, 0x05, 0x00, 0x01, 0x03, 0x30, 0x64, 0x07, 0xB4]

/-- The payload `P992` as a payload. -/
def v992 : Payload := ⟨p992.toArray, rfl⟩

/-- The payload `PMIX` as a payload. -/
def vmix : Payload := ⟨pmix.toArray, rfl⟩

/-- `CH` of vector V-U6. -/
def chMix : List Pulse := [880, 2159, 1500, 988, 2011, 881, 1520, 1733, 1307, 2158, 1500, 1500, 1193, 1817, 885, 2000]

/-! ### WellFormed refuses an ill-formed term for each check -/

theorem test_wf_addrReject : (Instr.addrReject 0xC8).wellFormed Params.default = false := by decide
theorem test_wf_lenReject_low : (Instr.lenReject 2).wellFormed Params.default = false := by decide
theorem test_wf_lenReject_high : (Instr.lenReject 62).wellFormed Params.default = false := by decide
theorem test_wf_wait_illegal : (Instr.wait 63).wellFormed Params.default = false := by decide
theorem test_wf_wait_two : (Instr.wait 2).wellFormed Params.default = false := by decide
theorem test_wf_badCrc_matches : (Instr.badCrc 0x3A [] 0xA0).wellFormed Params.default = false := by decide
theorem test_wf_badCrc_long : (Instr.badCrc 0x3A (List.replicate 61 0) 0).wellFormed Params.default = false := by decide
theorem test_wf_rcChannels_crc : (Instr.rcChannels v992 0xAC).wellFormed Params.default = false := by decide +kernel
theorem test_wf_validIgnored_crc : (Instr.validIgnored 0x3A [] 0xA1).wellFormed Params.default = false := by decide
theorem test_wf_validIgnored_channel_data :
    (Instr.validIgnored 0x16 p992 0xAD).wellFormed Params.default = false := by decide +kernel

/-! ### Decoding the spec's words -/

/-- opcode_table.json: the eight command codes, code 1 with an operand. -/
theorem test_decode_feed : decodeCommand ⟨0b001, [0xC8, 0x18]⟩ = .ok (.feed [0xC8, 0x18]) := by decide
theorem test_decode_scan : decodeCommand ⟨0b010, []⟩ = .ok .scan := by decide
theorem test_decode_idle : decodeCommand ⟨0b000, []⟩ = .ok .idle := by decide
theorem test_decode_clear : decodeCommand ⟨0b011, []⟩ = .ok .clear := by decide
theorem test_decode_unpack : decodeCommand ⟨0b100, [0x64]⟩ = .ok (.unpack [0x64]) := by decide
theorem test_decode_crc8 : decodeCommand ⟨0b101, []⟩ = .ok (.crc8 []) := by decide
theorem test_decode_reserved110 : decodeCommand ⟨0b110, []⟩ = .ok (.reserved110 []) := by decide
theorem test_decode_reserved111 : decodeCommand ⟨0b111, [1]⟩ = .ok (.reserved111 [1]) := by decide
theorem test_decode_scan_with_operand : decodeCommand ⟨0b010, [0]⟩ = .error (.operandNotTaken "SCAN") := by decide

/-- V-S2: the position `00 FF 12 C8`. -/
theorem test_decode_addrReject : decodePosition Params.default [0x00, 0xFF, 0x12, 0xC8] = some (.addrReject 0x00) := by decide
/-- R99's example: `C8 01 16 00`. -/
theorem test_decode_lenReject : decodePosition Params.default [0xC8, 0x01, 0x16, 0x00] = some (.lenReject 0x01) := by decide
/-- V-S8, the length 63. -/
theorem test_decode_lenReject_63 : decodePosition Params.default [0xC8, 0x3F, 0x00, 0x00] = some (.lenReject 0x3F) := by decide
/-- V-S9: `C8 3E 16 00`. -/
theorem test_decode_wait : decodePosition Params.default [0xC8, 0x3E, 0x16, 0x00] = some (.wait 0x3E) := by decide
/-- FMIN with its crc byte off by one. -/
theorem test_decode_badCrc : decodePosition Params.default [0xC8, 0x02, 0x3A, 0xA1] = some (.badCrc 0x3A [] 0xA1) := by decide
/-- V-S1: `F992`. -/
theorem test_decode_rcChannels : decodePosition Params.default f992 = some (.rcChannels v992 0xAD) := by decide +kernel
/-- V-S6: `FLS`, with bytes after it. -/
theorem test_decode_validIgnored :
    decodePosition Params.default (fls ++ [0xC8]) =
      some (.validIgnored 0x14 [0x10, 0x20, 0x64, 0x05, 0x00, 0x01, 0x03, 0x30, 0x64, 0x07] 0xB4) := by decide +kernel
/-- V-S7: the type matches, the payload has 21 bytes. -/
theorem test_decode_short_channel_frame :
    decodePosition Params.default ([0xC8, 0x17, 0x16] ++ p992.take 21 ++ [0x84]) =
      some (.validIgnored 0x16 (p992.take 21) 0x84) := by decide +kernel
/-- V-S9b: fewer than 4 bytes. -/
theorem test_decode_three_bytes : decodePosition Params.default [0xC8, 0x02, 0x3A] = none := by decide

/-- opcode_table.json, RC_CHANNELS: match 0xC81816 over the first three bytes. -/
theorem test_table_rcChannels :
    (decodeTableWord 24 0xC81816).map (fun i => i.wellFormed Params.default) = some true ∧
    (tableStream 24 0xC81816).length = 26 ∧
    (decodePosition Params.default (tableStream 24 0xC81816)).map Position.causeCode = some 5 := by decide +kernel

/-- opcode_table.json, the rows of format FRAME with no fixed bits, on words that meet their constraints. -/
theorem test_table_positions :
    decodeTableWord 8 0xEE = some (.addrReject 0xEE) ∧ decodeTableWord 16 0xC83F = some (.lenReject 0x3F) ∧
    decodeTableWord 16 0xC818 = some (.wait 0x18) ∧ decodeTableWord 32 0xC8023AA1 = some (.badCrc 0x3A [] 0xA1) ∧
    decodeTableWord 32 0xC8023AA0 = some (.validIgnored 0x3A [] 0xA0) := by decide

/-! ### The checksum, the unpacker, the conversion -/

/-- V-C3 to V-C6. -/
theorem test_crc8_bytes : [crc8 [0x01], crc8 [0x80], crc8 [0xFF], crc8 [0x16]] = [0xD5, 0xEF, 0xF9, 0xD3] := by decide
/-- V-C11. -/
theorem test_crc8_check_string : crc8 [0x31, 0x32, 0x33, 0x34, 0x35, 0x36, 0x37, 0x38, 0x39] = 0xBC := by decide +kernel
/-- V-T1, V-T2, V-T7, V-T15 (spec/42_channel_unpacker.md R125). -/
theorem test_ticksToUs : [ticksToUs 0, ticksToUs 1, ticksToUs 991, ticksToUs 2047] = [880, 881, 1500, 2159] := by decide
/-- V-U3: field 5 all ones. -/
theorem test_extract_one_hot :
    (payloadOf ([0, 0, 0, 0, 0, 0, 0x80, 0xFF, 0x03] ++ List.replicate 13 0)).map (fun p => [extract p 4, extract p 5, extract p 6]) =
      some [0, 2047, 0] := by decide
/-- V-U6. -/
theorem test_unpackChannels : (unpackChannels vmix).toList = chMix := by decide

/-! ### The commands, one step each -/

/-- V-F16. -/
theorem test_idle : after (exec .idle (atRestWith [1, 2, 3])) (fun t => (t.buf, t.status)) = some ([1, 2, 3], .ok) := by decide
/-- V-F3. -/
theorem test_feed :
    after (exec (.feed [0xE0, 0x03]) (atRestWith [0xC8, 0x18, 0x16])) (fun t => (t.buf, t.dropped)) =
      some ([0xC8, 0x18, 0x16, 0xE0, 0x03], 0) := by decide
/-- R80: what one byte over the capacity, and an oversize chunk into three bytes (V-F7), drop. -/
theorem test_overflow : (overflow 4096, overflow 4097, overflow (3 + 4352)) = (0, 1, 259) := by decide
/-- V-F14. -/
theorem test_clear :
    after (exec .clear (atRestWith [0xC8, 0x18, 0x16, 0xE0])) (fun t => (t.buf, t.len)) = some ([], 0) := by decide
/-- V-U5 through the command. -/
theorem test_unpack :
    after (exec (.unpack p992) (atRestWith [])) (fun t => (t.fresh, t.readChannel 15, t.status)) =
      some (true, some 1500, .ok) := by decide
/-- V-U11. -/
theorem test_unpack_short :
    after (exec (.unpack []) (atRestWith [])) (fun t => (t.fresh, t.status)) =
      some (false, .refused .insufficientData) := by decide
/-- V-C7 through the command. -/
theorem test_crc8 : after (exec (.crc8 [0x3A]) (atRestWith [])) (fun t => t.crcOut) = some 0xA0 := by decide
/-- V-R1. -/
theorem test_reserved110 :
    after (exec (.reserved110 []) (atRestWith [7])) (fun t => (t.buf, t.status)) =
      some ([7], .refused .reservedCommand) := by decide
/-- V-R2. -/
theorem test_reserved111 :
    after (exec (.reserved111 [9]) (atRestWith [7])) (fun t => (t.buf, t.status)) =
      some ([7], .refused .reservedCommand) := by decide
/-- V-F10 and V-F13. -/
theorem test_consume :
    Memory.consume [0x00, 0xFF, 0xC8, 0x18] 2 = .ok [0xC8, 0x18] ∧
    Memory.consume [0x00, 0xFF, 0xC8, 0x18] 5 = .error .consumePastEnd := ⟨rfl, rfl⟩
/-- V-S1. -/
theorem test_scan_one_frame :
    after (exec .scan (atRestWith f992)) (fun t => (t.buf, t.consumed, counters t, t.readChannel 0)) =
      some ([], 26, [1, 1, 0, 0, 1], some 1500) := by decide +kernel
/-- V-S8. -/
theorem test_scan_rejects :
    after (exec .scan (atRestWith [0xC8, 0x01, 0x16, 0x00, 0xC8, 0x3F, 0x00, 0x00, 0xC8, 0x00, 0x00, 0x00]))
      (fun t => (t.buf, t.consumed, counters t, t.fresh)) = some ([0, 0, 0], 9, [0, 0, 6, 0, 0], false) := by decide

/-! ### The classes of a position, one step each from a scan in progress -/

/-- V-S14's first position: another address. -/
theorem test_addrReject :
    after (step (inScanWith [0xEE, 0x18, 0x16, 0xE0] 0)) (fun t => (t.cursor, counters t)) =
      some (some 1, [0, 0, 1, 0, 0]) := by decide
/-- R99's example. -/
theorem test_lenReject :
    after (step (inScanWith [0xC8, 0x01, 0x16, 0x00] 0)) (fun t => (t.cursor, counters t)) =
      some (some 1, [0, 0, 0, 0, 0]) := by decide
/-- P2's third event: `W@26` keeps the seven bytes from the cursor on; here two bytes stand before them. -/
theorem test_wait :
    after (step (inScanWith [0, 0, 0xC8, 0x18, 0x16, 0x00, 0xF8, 0x3F, 0xF8] 2)) (fun t => (t.cursor, t.consumed, t.buf)) =
      some (none, 2, [0xC8, 0x18, 0x16, 0x00, 0xF8, 0x3F, 0xF8]) := by decide
/-- V-S21's first position: the crc byte changed. -/
theorem test_badCrc :
    after (step (inScanWith (f992.take 25 ++ [0xAC]) 0)) (fun t => (t.cursor, counters t)) =
      some (some 1, [1, 0, 0, 1, 0]) := by decide +kernel
/-- V-S2's fourth position. -/
theorem test_rcChannels :
    after (step (inScanWith ([0x00, 0xFF, 0x12] ++ fmix) 3)) (fun t => (t.cursor, counters t, t.fresh, t.ch.toList)) =
      some (some 29, [1, 1, 0, 0, 1], true, chMix) := by decide +kernel
/-- V-S6's first position. -/
theorem test_validIgnored :
    after (step (inScanWith fls 0)) (fun t => (t.cursor, counters t, t.fresh)) =
      some (some 14, [1, 1, 0, 0, 0], false) := by decide +kernel
/-- V-S8's last event: three bytes left end the scan. -/
theorem test_scan_end :
    after (step (inScanWith [0xC8, 0x00, 0x00, 0x00] 1)) (fun t => (t.cursor, t.consumed, t.buf, t.status)) =
      some (none, 1, [0, 0, 0], .ok) := by decide

/-! ### Fetching from reset -/

/-- Every command code, placed with `withFetchWord`, runs as the first operation after reset. -/
theorem test_fetch_commands :
    (List.range 8).map (fun w => (after (step (State.reset.withFetchWord 8 w)) fun t => (t.cursor, t.trace)).isSome) =
      List.replicate 8 true := by decide
/-- RC_CHANNELS, placed with `withFetchWord`, is the first thing that runs. -/
theorem test_fetch_rcChannels :
    after (step (State.reset.withFetchWord 24 0xC81816)) (fun t => (t.cursor, t.nRc, t.fresh)) =
      some (some 26, 1, true) := by decide +kernel
/-- R160: with nothing placed, reset stays as it is. -/
theorem test_reset_waits : step State.reset = .next State.reset := rfl

/-! ### Traces -/

/-- R60, R61: the text `RX C8 00*2 ; x`, and a reset. -/
theorem test_trace_text :
    (parseTrace ['R', 'X', ' ', 'C', '8', ' ', '0', '0', '*', '2', ' ', ';', ' ', 'x', '\n', 'R', 'E', 'S', 'E', 'T']).map
      assembleTrace = some [.issue ⟨0b001, [0xC8, 0, 0]⟩, .issue ⟨0b010, []⟩, .reset] := by decide
/-- R60: an odd number of digits is no byte. -/
theorem test_trace_text_refused : parseTrace ['F', 'E', 'E', 'D', ' ', 'C'] = none := by decide
/-- R60's `AA*4090` with a shorter count of two digits, and a line of R62. -/
theorem test_trace_bytes :
    parseBytes ['A', 'A', '*', '1', '2'] = some (List.replicate 12 0xAA) ∧
    parseTrace ['F', 'E', 'E', 'D', 'B', ' ', 'f', '0'] = some [.feedb 0xF0] := by decide

/-! ### The hypotheses of the statements can be met -/

/-- `s.cursor = none`, alone or with a bound on the buffer, fewer than 4 bytes, an empty buffer, or no event left. -/
theorem test_witness_at_rest :
    State.reset.cursor = none ∧ State.reset.trace = [] ∧ State.reset.buf = [] ∧ State.reset.buf.length < 4 ∧
    State.reset.buf.length ≤ Config.cap := ⟨rfl, rfl, rfl, by decide, by decide⟩

theorem test_witness_ResetEventGivesResetTable :
    ({ atRestWith [1] with trace := [.reset] } : State).cursor = none ∧
    ({ atRestWith [1] with trace := [.reset] } : State).trace = .reset :: [] := ⟨rfl, rfl⟩

theorem test_witness_StepRunsPresentedCommand :
    ({ atRestWith [1] with trace := [.issue ⟨1, [2]⟩] } : State).cursor = none ∧
    ({ atRestWith [1] with trace := [.issue ⟨1, [2]⟩] } : State).trace = .issue ⟨1, [2]⟩ :: [] ∧
    decodeCommand ⟨1, [2]⟩ = .ok (.feed [2]) := ⟨rfl, rfl, rfl⟩

/-- Both clauses: 4 bytes from the cursor (the first boundary value that decodes), and 3. -/
theorem test_witness_StepRunsPositionAtCursor :
    (inScanWith [9, 9, 9, 9] 0).cursor = some 0 ∧ (inScanWith [9, 9, 9, 9] 1).cursor = some 1 ∧
    decodePosition (inScanWith [9, 9, 9, 9] 0).params ([9, 9, 9, 9].drop 0) = some (.addrReject 9) ∧
    (1 : Count).toNat ≤ (inScanWith [9, 9, 9, 9] 1).buf.length ∧
    (inScanWith [9, 9, 9, 9] 1).buf.length < (1 : Count).toNat + 4 := ⟨rfl, rfl, by decide, by decide, by decide⟩

theorem test_witness_RxLineIsFeedThenScan :
    ({ State.reset with trace := (TraceLine.rx [5]).assemble } : State).cursor = none ∧
    ({ State.reset with trace := (TraceLine.rx [5]).assemble } : State).trace = (TraceLine.rx [5]).assemble := ⟨rfl, rfl⟩

/-- A frame with nothing after it; a one-byte class with exactly the 3 bytes it needs; WAIT one byte short of its frame. -/
theorem test_witness_PositionBytesDecodeToPosition :
    ((Position.validIgnored 0x3A [] 0xA0).toInstr.wellFormed Params.default = true ∧
      4 ≤ (encodePosition Params.default (.validIgnored 0x3A [] 0xA0) ++ []).length) ∧
    ((Position.addrReject 0).toInstr.wellFormed Params.default = true ∧
      4 ≤ (encodePosition Params.default (.addrReject 0) ++ [1, 2, 3]).length) ∧
    ((Position.wait 3).toInstr.wellFormed Params.default = true ∧
      4 ≤ (encodePosition Params.default (.wait 3) ++ [1, 2]).length ∧
      (encodePosition Params.default (.wait 3) ++ [1, 2]).length < (3 : Byte).toNat + 2) := by decide

theorem test_witness_DecodedPosition : decodePosition Params.default fmin = some (.validIgnored 0x3A [] 0xA0) := by decide

/-- Each of the three classes of a candidate. -/
theorem test_witness_CandidateFieldsSitAtTheirOffsets :
    (inScanWith [0xC8, 0x02, 0x3A, 0xA1] 0).positionAt 0 = some (.badCrc 0x3A [] 0xA1) ∧
    (inScanWith fmin 0).positionAt 0 = some (.validIgnored 0x3A [] 0xA0) ∧
    (inScanWith f992 0).positionAt 0 = some (.rcChannels v992 0xAD) := by decide +kernel

/-- The last byte, the whole buffer, and one past it. -/
theorem test_witness_MemRead :
    Memory.read [1, 2, 3] 2 1 = some [3] ∧ Memory.read [1, 2, 3] 0 3 = some [1, 2, 3] ∧ Memory.read [1, 2, 3] 2 2 = none := by
  decide

/-- CONSUME of all bytes, and of one more. -/
theorem test_witness_Consume : 2 ≤ (atRestWith [1, 2]).buf.length ∧ (atRestWith [1, 2]).buf.length < 3 := by decide

theorem test_witness_FeedMovesBytesInOrder :
    after (exec (.feed [3]) (atRestWith [1, 2])) (fun t => (t.readByte 1, t.readByte 2, t.readByte 3)) =
      some (some 2, some 3, none) := by decide

theorem test_witness_CrcLinear : ([0x01, 0x80] : List Byte).length = ([0xFF, 0x16] : List Byte).length := rfl

theorem test_witness_CrcSingleBit : 0 < ([0x16] : List Byte).length := by decide

/-- Exactly 22 bytes, one fewer, one more. -/
theorem test_witness_Unpack :
    p992.length = 22 ∧ 22 ≤ p992.length ∧ (p992.take 21).length < 22 ∧ 22 ≤ (p992 ++ [0]).length := by decide

/-- Two payloads that differ only in the last byte, which channel 14 does not read. -/
theorem test_witness_LaneReadsOnlyItsBytes :
    v992 ≠ v992.set 21 0 ∧ ∀ j : Fin 22, 11 * 14 / 8 ≤ j.val → j.val ≤ 11 * 14 / 8 + 1 → v992[j] = (v992.set 21 0)[j] := by
  decide

/-- Both clauses: a command during a scan, a class outside one. -/
theorem test_witness_OperationsOutOfPlace :
    (inScanWith [] 0).cursor = some 0 ∧ encode (inScanWith [] 0).params .idle = .command ⟨0, []⟩ ∧
    State.reset.cursor = none ∧ encode State.reset.params (.wait 3) = .stream [0xC8, 3] := ⟨rfl, rfl, rfl, rfl⟩

/-- The position conditions of ADDR_REJECT at the last offset that has 4 bytes. -/
theorem test_witness_AddrReject :
    (inScanWith [0xC8, 7, 0, 0, 0] 1).cursor = some 1 ∧ (1 : Count).toNat + 4 ≤ (inScanWith [0xC8, 7, 0, 0, 0] 1).buf.length ∧
    (inScanWith [0xC8, 7, 0, 0, 0] 1).readByte 1 = some 7 ∧ (7 : Byte) ≠ (inScanWith [0xC8, 7, 0, 0, 0] 1).params.addrFc := by
  decide

/-- The position conditions of LEN_REJECT for the lengths 1 and 63, the nearest outside the range. -/
theorem test_witness_LenReject :
    (inScanWith [0xC8, 1, 0, 0] 0).cursor = some 0 ∧ 0 + 4 ≤ (inScanWith [0xC8, 1, 0, 0] 0).buf.length ∧
    (inScanWith [0xC8, 1, 0, 0] 0).readByte 0 = some (inScanWith [0xC8, 1, 0, 0] 0).params.addrFc ∧
    (inScanWith [0xC8, 1, 0, 0] 0).readByte 1 = some 1 ∧ (1 : Byte).toNat < 2 ∧
    (inScanWith [0xC8, 63, 0, 0] 0).readByte 1 = some 63 ∧ 62 < (63 : Byte).toNat := by decide

/-- The position conditions of WAIT one byte short of the frame, for the lengths 3 and 62. -/
theorem test_witness_Wait :
    (inScanWith [0xC8, 3, 0, 0] 0).cursor = some 0 ∧ (0 : Count).toNat ≤ (inScanWith [0xC8, 3, 0, 0] 0).buf.length ∧
    (inScanWith [0xC8, 3, 0, 0] 0).readByte 0 = some (inScanWith [0xC8, 3, 0, 0] 0).params.addrFc ∧
    (inScanWith [0xC8, 3, 0, 0] 0).readByte 1 = some 3 ∧ 2 ≤ (3 : Byte).toNat ∧
    (inScanWith [0xC8, 3, 0, 0] 0).buf.length < 0 + (3 : Byte).toNat + 2 ∧
    (62 : Byte).toNat ≤ 62 ∧ (inScanWith (0xC8 :: 62 :: List.replicate 61 0) 0).buf.length < 0 + (62 : Byte).toNat + 2 := by
  decide

/-- The position conditions of BAD_CRC for the shortest frame. -/
theorem test_witness_BadCrc :
    (inScanWith [0xC8, 2, 0x3A, 0xA1] 0).cursor = some 0 ∧ ([] : List Byte).length + 2 ≤ 62 ∧
    (inScanWith [0xC8, 2, 0x3A, 0xA1] 0).buf.read 0 4 =
      some (frameBytes (inScanWith [0xC8, 2, 0x3A, 0xA1] 0).params 0x3A [] 0xA1) ∧ crc8 [0x3A] ≠ 0xA1 := by decide

/-- The position conditions of RC_CHANNELS. -/
theorem test_witness_RcChannels :
    (inScanWith f992 0).cursor = some 0 ∧
    (inScanWith f992 0).buf.read 0 26 =
      some (frameBytes (inScanWith f992 0).params (inScanWith f992 0).params.typeRc v992.toList 0xAD) ∧
    crc8 ((inScanWith f992 0).params.typeRc :: v992.toList) = 0xAD := by decide +kernel

/-- The position conditions of VALID_IGNORED: another type, and the channel-data type with 21 bytes. -/
theorem test_witness_ValidIgnored :
    (inScanWith fmin 0).cursor = some 0 ∧
    (inScanWith fmin 0).buf.read 0 4 = some (frameBytes (inScanWith fmin 0).params 0x3A [] 0xA0) ∧
    crc8 [0x3A] = 0xA0 ∧ (0x3A : Byte) ≠ (inScanWith fmin 0).params.typeRc ∧
    crc8 (0x16 :: p992.take 21) = 0x84 ∧ (p992.take 21).length ≠ 22 := by decide +kernel

/-- A SCAN that answers a next state, one that leaves FRESH set, and one that leaves a waiting frame. -/
theorem test_witness_Scan :
    (atRestWith f992).buf.length ≤ Config.cap ∧ after (exec .scan (atRestWith f992)) (·.fresh) = some true ∧
    after (exec .scan (atRestWith (f992.take 10))) (fun t => (t.fresh, t.buf.length)) = some (false, 10) := by decide +kernel

theorem test_witness_LastChannelFrameWins :
    (atRestWith (f992 ++ fmix)).cursor = none ∧
    (atRestWith (f992 ++ fmix)).buf =
      frameBytes Params.default 0x16 v992.toList (crc8 (0x16 :: v992.toList)) ++
      frameBytes Params.default 0x16 vmix.toList (crc8 (0x16 :: vmix.toList)) := by decide +kernel

/-- `F992` is the frame of sixteen ticks of 992. -/
theorem test_witness_ScanOfPackedFrame :
    frameBytes Params.default 0x16 (packTicks (Vector.replicate 16 992)).toList
      (crc8 (0x16 :: (packTicks (Vector.replicate 16 992)).toList)) = f992 := by decide +kernel

theorem test_witness_ScanDependsOnBufferOnly :
    (atRestWith f992).params = ({ atRestWith f992 with dropped := 5, nRc := 7 } : State).params ∧
    (atRestWith f992).buf = ({ atRestWith f992 with dropped := 5, nRc := 7 } : State).buf ∧
    (atRestWith f992).cursor = ({ atRestWith f992 with dropped := 5, nRc := 7 } : State).cursor := ⟨rfl, rfl, rfl⟩

/-- A valid frame of each kind, and the first and last byte a flip may touch. -/
theorem test_witness_SingleBitError :
    (Position.rcChannels v992 0xAD).toInstr.wellFormed Params.default = true ∧
    (Position.rcChannels v992 0xAD).causeCode = 5 ∧
    (Position.validIgnored 0x3A [] 0xA0).toInstr.wellFormed Params.default = true ∧
    (Position.validIgnored 0x3A [] 0xA0).causeCode = 6 ∧
    2 < (encodePosition Params.default (.validIgnored 0x3A [] 0xA0)).length ∧
    25 < (encodePosition Params.default (.rcChannels v992 0xAD)).length := by decide +kernel

/-- V-S3 and V-S3b: a frame in two chunks, none of which drops a byte. -/
theorem test_witness_ScanIsChunkSizeIndependent :
    (atRestWith []).cursor = none ∧ (atRestWith []).buf = [] ∧
    (receiveAll 0 [f992.take 10, f992.drop 10] (atRestWith [])).map (fun r => (r.1.map (·.offset), r.2.buf)) =
      some ([0], []) := by decide +kernel

/-- An instruction that completes and is none of the three writers of the channels. -/
theorem test_witness_Frame : after (exec (.feed [1]) State.reset) (fun _ => true) = some true := by decide

theorem test_witness_StepKeepsInvariant : (after (step State.reset) fun _ => true) = some true ∧ State.reset.buf = [] := by
  decide

end Sys2Proof.Tests
end

/-! Proofs of the state family (spec/10_state.md): what an instruction can do when it answers a next state, the frames of the outcome,
and the invariant. -/

namespace Sys2Proof.Machine

/-! ### The channel values -/

/-- The microseconds of every tick (spec/42_channel_unpacker.md R126). -/
theorem ticksToMicros_range (t : Tick) : 880 ≤ ticksToMicros t ∧ ticksToMicros t ≤ 2159 := by
  have ht : t.toNat < 2048 := t.isLt
  simp only [ticksToMicros, Config.tickCenter, Config.scaleNum, Config.scaleDen, Config.usCenter,
    Int.tdiv_eq_ediv, show Int.sign 8 = 1 from rfl]
  split <;> omega

/-- The 12 stored bits lose nothing of the conversion (spec/42_channel_unpacker.md R126; spec/10_state.md R25). -/
theorem ticksToUs_toNat (t : Tick) : ((ticksToUs t).toNat : Int) = ticksToMicros t := by
  have hr := ticksToMicros_range t
  rw [ticksToUs, BitVec.toNat_ofInt]
  omega

/-- Every channel an unpack delivers is in range (spec/42_channel_unpacker.md R126). -/
theorem unpackChannels_range (p : Payload) (k : Channel) :
    880 ≤ (unpackChannels p)[k].toNat ∧ (unpackChannels p)[k].toNat ≤ 2159 := by
  have hv : (unpackChannels p)[k] = ticksToUs (extract p k) := by simp [unpackChannels]
  have hr := ticksToMicros_range (extract p k)
  have hn := ticksToUs_toNat (extract p k)
  rw [hv]
  omega

/-! ### What an instruction can do -/

/-- All that a host command other than SCAN can do: an UNPACK that delivers, or a write of the buffer within its bound and of
the results `DROPPED`, `CRC_OUT` and `STATUS`. -/
theorem exec_next_of_rest {i : Instr} {s t : State} (h : exec i s = .next t) (hc : s.cursor = none) (hi : i ≠ .scan) :
    (∃ p v, i = .unpack p ∧ t = (s.deliver v).succeed) ∨
    ∃ (m : Memory) (d : Nat) (x : Byte) (st : Status), (s.buf.wf = true → m.wf = true) ∧
      t = { s with buf := m, dropped := d, crcOut := x, status := st } := by
  cases i with
  | scan => exact absurd rfl hi
  | idle =>
    cases (State.atRest_next h).2
    exact .inr ⟨_, _, _, _, id, rfl⟩
  | feed chunk =>
    cases (State.atRest_next h).2
    exact .inr ⟨_, _, _, _, fun _ => Memory.feed_wf s.buf chunk, rfl⟩
  | clear =>
    cases (State.atRest_next h).2
    exact .inr ⟨_, _, _, _, fun _ => Memory.nil_wf, rfl⟩
  | unpack p =>
    have hr := (State.atRest_next h).2
    cases hp : payloadOf p with
    | none =>
      rw [hp] at hr
      cases hr
      exact .inr ⟨_, _, _, _, id, rfl⟩
    | some v =>
      rw [hp] at hr
      cases hr
      exact .inl ⟨p, v, rfl, rfl⟩
  | crc8 bytes =>
    cases (State.atRest_next h).2
    exact .inr ⟨_, _, _, _, id, rfl⟩
  | reserved110 o | reserved111 o =>
    cases (State.atRest_next h).2
    exact .inr ⟨_, _, _, _, id, rfl⟩
  | addrReject | lenReject | badCrc | rcChannels | validIgnored | wait =>
    obtain ⟨pos, hpos, -⟩ := State.atCursor_next h
    simp [hc] at hpos

/-- With a SCAN in progress only the class of a position answers a next state. -/
theorem exec_next_of_cursor {i : Instr} {s t : State} {pos : Count} (h : exec i s = .next t) (hc : s.cursor = some pos) :
    ∃ q : Position, i = q.toInstr ∧ stepPosition q s = .next t := by
  cases i with
  | idle | feed | scan | clear | unpack | crc8 | reserved110 | reserved111 =>
    have hn := (State.atRest_next h).1
    simp [hc] at hn
  | addrReject a => exact ⟨.addrReject a, rfl, h⟩
  | lenReject l => exact ⟨.lenReject l, rfl, h⟩
  | wait l => exact ⟨.wait l, rfl, h⟩
  | badCrc t p r => exact ⟨.badCrc t p r, rfl, h⟩
  | rcChannels p r => exact ⟨.rcChannels p r, rfl, h⟩
  | validIgnored t p r => exact ⟨.validIgnored t p r, rfl, h⟩

/-- All that a STEP can do at the cursor: its record and a move of the cursor, or the end of the scan. -/
theorem stepPosition_next {q : Position} {s t : State} {pos : Count} (h : stepPosition q s = .next t)
    (hc : s.cursor = some pos) :
    (∃ k, q.advance = some k ∧ t = (recordPosition q s).moveCursor pos k) ∨ s.endScan = .next t := by
  cases hk : q.advance with
  | none => exact .inr (stepPosition_of_stop hk ▸ h)
  | some k =>
    rw [stepPosition_of_advance hc hk] at h
    cases h
    exact .inl ⟨k, rfl, rfl⟩

/-- Between operations, with no event left, a step holds the state (spec/70_reset_and_hazards.md R160). -/
theorem step_of_no_event {s : State} (hc : s.cursor = none) (ht : s.trace = []) : step s = .next s := by
  simp only [step, hc, ht]

/-- Between operations a step takes the host's next event and runs it (spec/20_memory.md R43). -/
theorem step_of_event {s : State} {e : HostEvent} {rest : List HostEvent} (hc : s.cursor = none)
    (ht : s.trace = e :: rest) : step s = runEvent e { s with trace := rest } := by
  simp only [step, hc, ht]

/-- What every STEP and the end of a scan keep, the loop of SCAN keeps. -/
theorem scanLoop_keeps {P : State → Prop}
    (hstep : ∀ s t pos q, P s → s.cursor = some pos → s.positionAt pos = some q → stepPosition q s = .next t → P t)
    (hend : ∀ s t, P s → s.endScan = .next t → P t) {n : Nat} {s t : State} (hs : P s)
    (h : scanLoop n s = .next t) : P t := by
  induction n generalizing s with
  | zero =>
    cases h
    exact hs
  | succ n ih =>
    cases hc : s.cursor with
    | none =>
      rw [scanLoop_of_rest _ hc] at h
      cases h
      exact hs
    | some pos =>
      cases hq : s.positionAt pos with
      | none => exact hend s t hs (scanLoop_of_end n hc hq ▸ h)
      | some q =>
        cases hk : q.advance with
        | none => exact hend s t hs (scanLoop_of_stop n hc hq hk ▸ h)
        | some k =>
          rw [scanLoop_of_advance n hc hq hk] at h
          exact ih (hstep s _ pos q hs hc hq (stepPosition_of_advance hc hk)) h

/-! ### The frames of the outcome -/

/-- The record of a position that is no channel-data frame leaves FRESH and CH. -/
theorem recordPosition_fresh_ch {q : Position} (s : State) (hq : ∀ p r, q ≠ .rcChannels p r) :
    (recordPosition q s).fresh = s.fresh ∧ (recordPosition q s).ch = s.ch := by
  cases q with
  | rcChannels p r => exact absurd rfl (hq p r)
  | addrReject | lenReject | wait | badCrc | validIgnored => exact ⟨rfl, rfl⟩

/-- Settles O51: between operations only UNPACK delivers, and in a scan only the record of RC_CHANNELS does. -/
theorem freshAndChannelsWrittenOnlyByScanAndUnpack : Obligations.FreshAndChannelsWrittenOnlyByScanAndUnpack := by
  intro i s t h hscan hunpack hrc
  cases hc : s.cursor with
  | none =>
    obtain ⟨p, -, rfl, -⟩ | ⟨m, d, x, st, -, rfl⟩ := exec_next_of_rest h hc hscan
    · exact absurd rfl (hunpack p)
    · exact ⟨rfl, rfl⟩
  | some pos =>
    obtain ⟨q, rfl, hstep⟩ := exec_next_of_cursor h hc
    obtain ⟨k, -, rfl⟩ | hend := stepPosition_next hstep hc
    · exact recordPosition_fresh_ch s fun p r hq => hrc p r (hq ▸ rfl)
    · obtain ⟨_, -, -, rfl⟩ := State.endScan_next hend
      exact ⟨rfl, rfl⟩

/-- Settles O52: between operations no command but SCAN writes a counter. -/
theorem countersChangeOnlyByScan : Obligations.CountersChangeOnlyByScan := by
  intro i s t h hc hscan
  obtain ⟨p, v, -, rfl⟩ | ⟨m, d, x, st, -, rfl⟩ := exec_next_of_rest h hc hscan
  · exact ⟨rfl, rfl, rfl, rfl, rfl⟩
  · exact ⟨rfl, rfl, rfl, rfl, rfl⟩

/-! ### Reset -/

/-- Settles O1: each register as the reset table gives it. -/
theorem resetLeavesEmptyBufferAndOutcome : Obligations.ResetLeavesEmptyBufferAndOutcome :=
  ⟨rfl, rfl, rfl, rfl, rfl, rfl, rfl, rfl⟩

/-- The reset table meets the invariant, whatever the parameters, the draw and the host's events. -/
theorem resetWith_inv (c : Params) (n : Nat) (events : List HostEvent) :
    ({ resetWith c n with trace := events } : State).Inv where
  bufBound := Nat.zero_le _
  cursorBound := nofun
  consumedBound := Nat.zero_le _
  seenSplit := rfl
  rcBound := Nat.le_refl _
  passedBound := Nat.le_refl _
  freshOfRc h := absurd rfl h
  channelRange := nofun

/-- Settles O54: the reset table meets the invariant. -/
theorem resetSatisfiesInvariant : Obligations.ResetSatisfiesInvariant := resetWith_inv Params.default 0 []

/-! ### The invariant in a scan -/

/-- The cursor does not wrap when it moves inside a buffer. -/
theorem toNat_cursor_add {pos : Count} {k : Nat} (h : pos.toNat + k ≤ Config.cap) :
    (pos + BitVec.ofNat 13 k).toNat = pos.toNat + k := by
  simp only [Config.cap] at h
  rw [BitVec.toNat_add, BitVec.toNat_ofNat]
  omega

/-- The laws of the outcome once `n` bytes are passed: the clauses of the invariant that a STEP's record touches. -/
structure State.OutcomeInv (s : State) (n : Nat) : Prop where
  seenSplit : s.nSeen.toNat = s.nValid.toNat + s.nBadCrc.toNat
  rcBound : s.nRc.toNat ≤ s.nValid.toNat
  passedBound :
    s.nAddrRej.toNat + s.nBadCrc.toNat + 4 * (s.nValid.toNat - s.nRc.toNat) + 26 * s.nRc.toNat ≤ n
  freshOfRc : s.nRc ≠ 0 → s.fresh = true
  channelRange : s.fresh = true → ∀ k : Channel, 880 ≤ s.ch[k].toNat ∧ s.ch[k].toNat ≤ 2159

/-- The invariant holds these laws for the bytes passed so far. -/
theorem State.Inv.outcomeInv {s : State} (h : s.Inv) : s.OutcomeInv s.passed :=
  ⟨h.seenSplit, h.rcBound, h.passedBound, h.freshOfRc, h.channelRange⟩

/-- The record of a STEP keeps the laws of the outcome, the bytes of its advance passed: the laws bound each counter by the bytes
passed, so none of them wraps. -/
theorem State.OutcomeInv.recordPosition {s : State} {n k : Nat} {q : Position} (h : s.OutcomeInv n)
    (hn : n ≤ Config.cap) (hk : q.advance = some k) : (recordPosition q s).OutcomeInv (n + k) := by
  obtain ⟨hseen, hrc, hpassed, hfresh, hrange⟩ := h
  simp only [Config.cap] at hn
  have hValid : (s.nValid.toNat + 1) % 8192 = s.nValid.toNat + 1 := Nat.mod_eq_of_lt (by omega)
  have hRc : (s.nRc.toNat + 1) % 8192 = s.nRc.toNat + 1 := Nat.mod_eq_of_lt (by omega)
  cases q with
  | wait => cases hk
  | addrReject | lenReject | badCrc | validIgnored =>
    cases hk
    refine ⟨?_, ?_, ?_, hfresh, hrange⟩ <;> simp [Machine.recordPosition] <;> omega
  | rcChannels p r =>
    cases hk
    refine ⟨?_, ?_, ?_, fun _ => rfl, fun _ => unpackChannels_range p⟩ <;> simp [Machine.recordPosition] <;> omega

/-- A STEP inside the buffer that goes on keeps the invariant. -/
theorem State.Inv.advance {s : State} {pos : Count} {q : Position} {k : Nat} (h : s.Inv) (hc : s.cursor = some pos)
    (hk : q.advance = some k) (hb : pos.toNat + k ≤ s.buf.length) : ((recordPosition q s).moveCursor pos k).Inv := by
  have hcap := h.bufBound
  have hmove : (pos + BitVec.ofNat 13 k).toNat = pos.toNat + k := toNat_cursor_add (by omega)
  have hpassed : s.passed = pos.toNat := by simp [State.passed, hc]
  have ho : (recordPosition q s).OutcomeInv (pos.toNat + k) :=
    (hpassed ▸ h.outcomeInv).recordPosition (by omega) hk
  obtain ⟨-, hbuf, -, -, -, hconsumed, -⟩ := recordPosition_frame q s
  exact
    { bufBound := by simpa [hbuf] using hcap
      cursorBound := by simpa [hbuf, hmove] using hb
      consumedBound := by simpa [hconsumed] using h.consumedBound
      seenSplit := ho.seenSplit
      rcBound := ho.rcBound
      passedBound := by simpa [State.passed, hmove] using ho.passedBound
      freshOfRc := ho.freshOfRc
      channelRange := ho.channelRange }

/-- The end of a scan keeps the invariant: what was passed is what is consumed. -/
theorem State.Inv.endScan {s t : State} (h : s.Inv) (hend : s.endScan = .next t) : t.Inv := by
  obtain ⟨pos, hc, hle, rfl⟩ := State.endScan_next hend
  have hcap := h.bufBound
  exact
    { bufBound := by simp only [List.length_drop]; omega
      cursorBound := nofun
      consumedBound := Nat.le_trans hle hcap
      seenSplit := h.seenSplit
      rcBound := h.rcBound
      passedBound := by simpa [State.passed, hc] using h.passedBound
      freshOfRc := h.freshOfRc
      channelRange := h.channelRange }

/-- The STEP of the position at the cursor keeps the invariant. -/
theorem State.Inv.stepPosition {s t : State} {pos : Count} {q : Position} (h : s.Inv) (hc : s.cursor = some pos)
    (hq : s.positionAt pos = some q) (hstep : stepPosition q s = .next t) : t.Inv := by
  obtain ⟨k, hk, rfl⟩ | hend := stepPosition_next hstep hc
  · have hkle := ((decodePosition_advance hq).2 k hk).2
    have hpos := h.cursorBound pos hc
    rw [List.length_drop] at hkle
    exact h.advance hc hk (by omega)
  · exact h.endScan hend

/-- The entry of SCAN keeps the invariant: nothing is passed and nothing is counted. -/
theorem State.Inv.beginScan {s : State} (h : s.Inv) : s.beginScan.Inv where
  bufBound := h.bufBound
  cursorBound := by simp
  consumedBound := h.consumedBound
  seenSplit := rfl
  rcBound := Nat.le_refl _
  passedBound := Nat.le_refl _
  freshOfRc hne := absurd rfl hne
  channelRange := nofun

/-- SCAN keeps the invariant, its whole loop included. -/
theorem State.Inv.execScan {s t : State} (h : s.Inv) (hscan : exec .scan s = .next t) : t.Inv :=
  scanLoop_keeps (P := State.Inv) (fun _ _ _ _ hs hc hq hstep => hs.stepPosition hc hq hstep)
    (fun _ _ hs hend => hs.endScan hend) h.beginScan (execScan_next hscan).2

/-! ### The invariant between operations -/

/-- A new payload keeps the invariant: FRESH is set and the channels are in range. -/
theorem State.Inv.deliver {s : State} (h : s.Inv) (p : Payload) : (s.deliver p).succeed.Inv :=
  { h with freshOfRc := fun _ => rfl, channelRange := fun _ => unpackChannels_range p }

/-- Between operations every instruction keeps the invariant. -/
theorem State.Inv.exec {i : Instr} {s t : State} (h : s.Inv) (hc : s.cursor = none) (hexec : exec i s = .next t) :
    t.Inv := by
  by_cases hi : i = .scan
  · subst hi
    exact h.execScan hexec
  · obtain ⟨p, v, -, rfl⟩ | ⟨m, d, x, st, hm, rfl⟩ := exec_next_of_rest hexec hc hi
    · exact h.deliver v
    · have hwf : s.buf.wf = true := decide_eq_true h.bufBound
      exact { h with bufBound := (Memory.wf_iff m).mp (hm hwf), cursorBound := by simp [hc] }

/-- A host event keeps the invariant. -/
theorem State.Inv.runEvent {e : HostEvent} {s t : State} (h : s.Inv) (hc : s.cursor = none)
    (hrun : runEvent e s = .next t) : t.Inv := by
  cases e with
  | reset =>
    cases hrun
    exact resetWith_inv s.params s.drawn s.trace
  | issue w =>
    simp only [Machine.runEvent] at hrun
    split at hrun
    · exact h.exec hc hrun
    · cases hrun

/-- Settles O55: in a scan by the STEP at the cursor or the end of the scan, between operations by the host's next event. -/
theorem stepKeepsInvariant : Obligations.StepKeepsInvariant := by
  intro s t h hstep
  cases hc : s.cursor with
  | some pos =>
    rw [step_at_cursor hc] at hstep
    cases hq : s.positionAt pos with
    | none => exact h.endScan (by simpa only [hq] using hstep)
    | some q => exact h.stepPosition hc hq (by simpa only [hq] using hstep)
  | none =>
    cases htrace : s.trace with
    | nil =>
      rw [step_of_no_event hc htrace] at hstep
      cases hstep
      exact h
    | cons e rest =>
      rw [step_of_event hc htrace] at hstep
      have hrest : ({ s with trace := rest } : State).Inv := { h with }
      exact hrest.runEvent hc hstep

end Sys2Proof.Machine

/-! Proofs of the memory family (spec/20_memory.md): reads inside the buffer, the bytes of a decoded position, FEED as one drop, and SCAN
as the pure scan of the buffer followed by the records of its events. -/

namespace Sys2Proof.Machine

/-! ### Reads -/

/-- `MemRead` gives a value exactly inside the buffer (spec/20_memory.md R36). -/
theorem Memory.read_isSome (m : Memory) (off n : Nat) : (m.read off n).isSome = true ↔ off + n ≤ m.length := by
  unfold Memory.read
  split <;> simp_all

/-- Settles O12: a read inside the buffer is the `n` bytes after the first `off`. -/
theorem memReadInsideBufferOnly : Obligations.MemReadInsideBufferOnly := by
  intro s off n
  refine ⟨Memory.read_isSome s.buf off n, fun bytes h => ?_⟩
  obtain ⟨hle, rfl⟩ := Memory.read_eq_some h
  refine ⟨?_, fun i hi => ?_⟩
  · rw [List.length_take, List.length_drop]
    omega
  · rw [List.getElem?_take_of_lt hi, List.getElem?_drop, State.readByte]

/-- Bytes that stand at an offset are what a read there gives. -/
theorem Memory.read_of_prefix {m : Memory} {off : Nat} {bytes : List Byte} (h : bytes <+: m.drop off) (hne : bytes ≠ []) :
    m.read off bytes.length = some bytes := by
  have hle := h.length_le
  have hpos := List.length_pos_iff.mpr hne
  rw [List.length_drop] at hle
  rw [Memory.read, if_pos (by omega), ← List.prefix_iff_eq_take.mp h]

/-- A read inside another read gives that part of its bytes. -/
theorem Memory.read_within {m : Memory} {off n : Nat} {bytes : List Byte} (h : m.read off n = some bytes) {i k : Nat}
    (hik : i + k ≤ n) : m.read (off + i) k = some ((bytes.drop i).take k) := by
  obtain ⟨hle, rfl⟩ := Memory.read_eq_some h
  rw [Memory.read, if_pos (by omega), List.drop_take, List.drop_drop, List.take_take, Nat.min_eq_left (by omega)]

/-! ### The bytes of a decoded position -/

/-- A complete candidate with a legal payload decodes to a well-formed position whose bytes are the candidate's frame
(spec/30_encoding.md R50, R51, R55). -/
theorem decodeCandidate_wellFormed_frame (c : Params) (t : Byte) (p : List Byte) (r : Byte) (hp : p.length + 2 ≤ 62) :
    (decodeCandidate c t p r).toInstr.wellFormed c = true ∧
      encodePosition c (decodeCandidate c t p r) = frameBytes c t p r := by
  have hlegal : legalPayload p = true := decide_eq_true hp
  obtain ⟨hcrc, hd⟩ | ⟨v, rfl, rfl, hcrc, hd⟩ | ⟨hcrc, hother, hd⟩ := decodeCandidate_cases c t p r
  · rw [hd]
    exact ⟨by simp [Position.toInstr, Instr.wellFormed, hlegal, hcrc], rfl⟩
  · rw [hd]
    exact ⟨by simp [Position.toInstr, Instr.wellFormed, hcrc], rfl⟩
  · rw [hd]
    refine ⟨?_, rfl⟩
    simpa [Position.toInstr, Instr.wellFormed, hlegal, hcrc, Config.rcPayload] using hother

/-- The frame of the first `n` payload bytes and the byte after them stands at the front (spec/30_encoding.md R50). -/
theorem frameBytes_prefix {c : Params} {l t : Byte} {body : List Byte} {n : Nat} (hn : n < body.length)
    (hl : l.toNat = n + 2) :
    frameBytes c t (body.take n) (body.getD n 0) <+: c.addrFc :: l :: t :: body := by
  have hlen : BitVec.ofNat 8 ((body.take n).length + 2) = l := by
    rw [List.length_take, Nat.min_eq_left (Nat.le_of_lt hn), ← hl, BitVec.ofNat_toNat, BitVec.setWidth_eq]
  have hbody : body.take n ++ [body.getD n 0] = body.take (n + 1) := by
    rw [List.getD_eq_getElem _ _ hn, List.take_append_getElem hn]
  rw [frameBytes, hlen, hbody]
  simpa using List.take_prefix (n + 1) body

/-- The four tests of a position in their order (spec/41_frame_decoder.md R98 to R101; spec/60_exceptions.md R143). -/
theorem decodePosition_cases {c : Params} {a l t x : Byte} {more : List Byte} {q : Position}
    (h : decodePosition c (a :: l :: t :: x :: more) = some q) :
    (a ≠ c.addrFc ∧ q = .addrReject a) ∨
    (a = c.addrFc ∧ (l.toNat < 2 ∨ 62 < l.toNat) ∧ q = .lenReject l) ∨
    (a = c.addrFc ∧ (2 ≤ l.toNat ∧ l.toNat ≤ 62) ∧ more.length + 4 < l.toNat + 2 ∧ q = .wait l) ∨
    (a = c.addrFc ∧ (2 ≤ l.toNat ∧ l.toNat ≤ 62) ∧ l.toNat + 2 ≤ more.length + 4 ∧
      q = decodeCandidate c t ((x :: more).take (l.toNat - 2)) ((x :: more).getD (l.toNat - 2) 0)) := by
  simp only [decodePosition] at h
  split_ifs at h with haddr hlen havail <;> cases h
  · exact .inl ⟨haddr, rfl⟩
  · exact .inr (.inl ⟨not_not.mp haddr, hlen, rfl⟩)
  · exact .inr (.inr (.inl ⟨not_not.mp haddr, (not_or.mp hlen).imp not_lt.mp not_lt.mp, havail, rfl⟩))
  · exact .inr (.inr (.inr ⟨not_not.mp haddr, (not_or.mp hlen).imp not_lt.mp not_lt.mp, not_lt.mp havail, rfl⟩))

/-- What a position decodes to is well formed, and its bytes stand at the front (spec/30_encoding.md R50, R55). -/
theorem decodePosition_wellFormed_prefix {c : Params} {bytes : List Byte} {q : Position}
    (h : decodePosition c bytes = some q) : q.toInstr.wellFormed c = true ∧ encodePosition c q <+: bytes := by
  match bytes, h with
  | a :: l :: t :: x :: more, h =>
    obtain ⟨haddr, rfl⟩ | ⟨rfl, hlen, rfl⟩ | ⟨rfl, hlen, havail, rfl⟩ | ⟨rfl, hlen, havail, rfl⟩ := decodePosition_cases h
    · exact ⟨by simpa [Position.toInstr, Instr.wellFormed] using haddr, by simp [encodePosition]⟩
    · have hillegal : legalLength l = false := decide_eq_false (by simp only [Config.lenMin, Config.lenMax]; omega)
      exact ⟨by simp [Position.toInstr, Instr.wellFormed, hillegal], by simp [encodePosition]⟩
    · have hlegal : legalLength l = true := decide_eq_true hlen
      have hne : l ≠ 2 := by
        rintro rfl
        simp at havail
      exact ⟨by simpa [Position.toInstr, Instr.wellFormed, hlegal] using hne, by simp [encodePosition]⟩
    · have hn : l.toNat - 2 < (x :: more).length := by
        rw [List.length_cons]
        omega
      have hp : ((x :: more).take (l.toNat - 2)).length + 2 ≤ 62 := by
        rw [List.length_take]
        omega
      obtain ⟨hwf, henc⟩ := decodeCandidate_wellFormed_frame c t _ ((x :: more).getD (l.toNat - 2) 0) hp
      exact ⟨hwf, henc ▸ frameBytes_prefix hn (by omega)⟩

/-! ### The fields of a candidate -/

/-- A candidate's frame, read at once, holds each field at its fixed offset (spec/20_memory.md R41). -/
theorem Memory.read_frame_fields {m : Memory} {off : Nat} {c : Params} {t r : Byte} {p : List Byte}
    (hread : m.read off (p.length + 4) = some (frameBytes c t p r)) :
    m.read off 2 = some [c.addrFc, BitVec.ofNat 8 (p.length + 2)] ∧ m.read (off + 2) 1 = some [t] ∧
    m.read (off + 3) p.length = some p ∧ m.read (off + (p.length + 3)) 1 = some [r] ∧
    m.read (off + 2) (p.length + 1) = some (t :: p) := by
  refine ⟨?_, ?_, ?_, ?_, ?_⟩
  · simpa [frameBytes] using Memory.read_within hread (i := 0) (k := 2) (by omega)
  · simpa [frameBytes] using Memory.read_within hread (i := 2) (k := 1) (by omega)
  · simpa [frameBytes] using Memory.read_within hread (i := 3) (k := p.length) (by omega)
  · simpa [frameBytes] using Memory.read_within hread (i := p.length + 3) (k := 1) (by omega)
  · simpa [frameBytes] using Memory.read_within hread (i := 2) (k := p.length + 1) (by omega)

/-- A frame that stands at an offset is what the read of its length gives there. -/
theorem Memory.read_frame_of_prefix {m : Memory} {off : Nat} {c : Params} {t r : Byte} {p : List Byte}
    (h : frameBytes c t p r <+: m.drop off) : m.read off (p.length + 4) = some (frameBytes c t p r) := by
  simpa [frameBytes] using Memory.read_of_prefix h (by simp [frameBytes])

/-- Settles O11: the candidate's frame stands at the cursor, and each field is a part of the read of the whole frame. -/
theorem candidateFieldsSitAtTheirOffsets : Obligations.CandidateFieldsSitAtTheirOffsets := by
  intro s pos t p r h
  obtain ⟨hp, hprefix⟩ : p.length + 2 ≤ 62 ∧ frameBytes s.params t p r <+: s.buf.drop pos.toNat := by
    obtain h | h | ⟨v, rfl, rfl, h⟩ := h <;> obtain ⟨hwf, hprefix⟩ := decodePosition_wellFormed_prefix h
    · simp only [Position.toInstr, Instr.wellFormed, Bool.and_eq_true] at hwf
      exact ⟨of_decide_eq_true hwf.1, hprefix⟩
    · simp only [Position.toInstr, Instr.wellFormed, Bool.and_eq_true] at hwf
      exact ⟨of_decide_eq_true hwf.1.1, hprefix⟩
    · exact ⟨by simp, hprefix⟩
  have hread := Memory.read_frame_of_prefix hprefix
  obtain ⟨hheader, htype, hpayload, hcrc, hbody⟩ := Memory.read_frame_fields hread
  have hl : (BitVec.ofNat 8 (p.length + 2)).toNat = p.length + 2 := by
    rw [BitVec.toNat_ofNat]
    omega
  refine ⟨BitVec.ofNat 8 (p.length + 2), hl, hheader, htype, hpayload, ?_, ?_, ?_⟩ <;> rw [hl]
  · exact hcrc
  · exact hbody
  · exact hread

/-! ### FEED as one drop -/

/-- No more bytes overflow than there are. -/
theorem overflow_le (n : Nat) : overflow n ≤ n := Nat.sub_le _ _

/-- What a FEED cuts and what it evicts are together what does not fit (spec/40_reassembly_buffer.md R75). -/
theorem cutFromChunk_add_evictedBy (m : Memory) (chunk : List Byte) :
    cutFromChunk chunk + evictedBy m chunk = overflow (m.length + chunk.length) := by
  simp only [evictedBy, cutFromChunk, overflow, List.length_drop]
  omega

/-- FEED drops what does not fit from the front of the buffer followed by the chunk (spec/40_reassembly_buffer.md R74). -/
theorem Memory.feed_eq_drop (m : Memory) (chunk : List Byte) :
    m.feed chunk = (m ++ chunk).drop (overflow (m.length + chunk.length)) := by
  rw [List.drop_append, Memory.feed]
  rcases Nat.le_total chunk.length Config.cap with hfit | hover
  · have hcut : cutFromChunk chunk = 0 := overflow_of_le hfit
    have hevict : evictedBy m chunk = overflow (m.length + chunk.length) := by
      rw [← cutFromChunk_add_evictedBy, hcut, Nat.zero_add]
    have hle : overflow (m.length + chunk.length) - m.length = 0 := by
      simp only [overflow]
      omega
    rw [hevict, hcut, hle]
  · have hevict : m.length ≤ evictedBy m chunk := by
      simp only [evictedBy, cutFromChunk, overflow, List.length_drop]
      omega
    have hcut : overflow (m.length + chunk.length) - m.length = cutFromChunk chunk := by
      simp only [cutFromChunk, overflow]
      omega
    have hall : m.length ≤ overflow (m.length + chunk.length) := by
      simp only [overflow]
      omega
    rw [hcut, List.drop_of_length_le hevict, List.drop_of_length_le hall]

/-- All that a FEED can do when it answers a next state (spec/40_reassembly_buffer.md R74, R75). -/
theorem execFeed_next {s t : State} {chunk : List Byte} (h : exec (.feed chunk) s = .next t) :
    s.cursor = none ∧
      t = { s with
        buf := (s.buf ++ chunk).drop (overflow (s.buf.length + chunk.length))
        dropped := overflow (s.buf.length + chunk.length)
        status := .ok } := by
  obtain ⟨hc, hr⟩ := State.atRest_next h
  cases hr
  exact ⟨hc, by rw [Memory.feed_eq_drop, cutFromChunk_add_evictedBy]⟩

/-- Settles O16: the new buffer is the old one and the chunk after it, what does not fit dropped from the front. -/
theorem feedMovesBytesInOrder : Obligations.FeedMovesBytesInOrder := by
  intro s t chunk h
  obtain ⟨-, rfl⟩ := execFeed_next h
  refine ⟨fun a => ?_, ?_, ?_, overflow_of_le⟩
  · rw [State.readByte, List.getElem?_drop, List.getElem?_append, Nat.add_comm, State.readByte]
  · rw [List.length_drop, List.length_append, Nat.sub_add_cancel (overflow_le _)]
  · rw [List.length_drop, List.length_append]
    simp only [overflow]
    omega

/-! ### The records of a scan -/

/-- The outcome after the STEPs of a list of events (spec/60_exceptions.md R141, "record"). -/
def State.recordEvents (s : State) (es : List Event) : State := es.foldl (fun t e => recordPosition e.position t) s

@[simp] theorem State.recordEvents_nil (s : State) : s.recordEvents [] = s := rfl

@[simp] theorem State.recordEvents_cons (s : State) (e : Event) (es : List Event) :
    s.recordEvents (e :: es) = (recordPosition e.position s).recordEvents es := rfl

/-- The end of a scan that passed `n` bytes (spec/41_frame_decoder.md R106). -/
def State.endedAfter (s : State) (n : Nat) : State :=
  { s with buf := s.buf.drop n, consumed := BitVec.ofNat 13 n, cursor := none, status := .ok }

/-- The records of a scan leave the buffer. -/
theorem State.recordEvents_buf (s : State) (es : List Event) : (s.recordEvents es).buf = s.buf := by
  induction es generalizing s with
  | nil => rfl
  | cons e es ih =>
    obtain ⟨-, hbuf, -⟩ := recordPosition_frame e.position s
    exact (ih _).trans hbuf

/-- The record of a STEP neither sees nor moves the cursor. -/
theorem recordPosition_setCursor (q : Position) (s : State) (c : Option Count) :
    recordPosition q { s with cursor := c } = { recordPosition q s with cursor := c } := by
  cases q <;> rfl

/-- The records of a scan neither see nor move the cursor. -/
theorem State.recordEvents_setCursor (s : State) (c : Option Count) (es : List Event) :
    ({ s with cursor := c } : State).recordEvents es = { s.recordEvents es with cursor := c } := by
  induction es generalizing s with
  | nil => rfl
  | cons e es ih => simp only [State.recordEvents_cons, recordPosition_setCursor, ih]

/-- The end of a scan inside the buffer, in terms of the bytes passed. -/
theorem State.endScan_eq_endedAfter {s : State} {pos : Count} (hc : s.cursor = some pos)
    (hpos : pos.toNat ≤ s.buf.length) : s.endScan = .next (s.endedAfter pos.toNat) := by
  rw [State.endScan_of_le hc hpos, State.endedAfter, BitVec.ofNat_toNat, BitVec.setWidth_eq]

/-! ### The rounds of the pure scan -/

/-- Where no position decodes the pure scan stops (spec/41_frame_decoder.md R96). -/
theorem scanFrom_of_end {c : Params} {n pos : Nat} {view : List Byte} (h : decodePosition c view = none) :
    scanFrom c n pos view = (pos, []) := by
  cases n <;> simp [scanFrom, h]

/-- A position that stops the scan is its last event. -/
theorem scanFrom_of_stop {c : Params} {n pos : Nat} {view : List Byte} {q : Position}
    (h : decodePosition c view = some q) (hk : q.advance = none) :
    scanFrom c (n + 1) pos view = (pos, [⟨pos, q, none⟩]) := by
  simp [scanFrom, h, hk]

/-- A position that goes on is an event, and the rest of the scan follows. -/
theorem scanFrom_of_advance {c : Params} {n pos k : Nat} {view : List Byte} {q : Position}
    (h : decodePosition c view = some q) (hk : q.advance = some k) :
    scanFrom c (n + 1) pos view =
      ((scanFrom c n (pos + k) (view.drop k)).1,
        ⟨pos, q, positionValues q⟩ :: (scanFrom c n (pos + k) (view.drop k)).2) := by
  simp [scanFrom, h, hk]

/-- Only the class WAIT stops a scan, and it records nothing. -/
theorem recordPosition_of_stop {q : Position} (s : State) (hk : q.advance = none) : recordPosition q s = s := by
  cases q <;> cases hk
  rfl

/-- A position decodes only where 4 bytes remain, so none does where fewer remain. -/
theorem decodePosition_of_length_lt {c : Params} {bytes : List Byte} (h : bytes.length < 4) :
    decodePosition c bytes = none := by
  cases hq : decodePosition c bytes with
  | none => rfl
  | some q =>
    have hlen := (decodePosition_advance hq).1
    omega

/-! ### SCAN as the pure scan -/

/-- The loop of SCAN from a cursor inside the buffer, with rounds for every byte left, is the pure scan from there: its events are
recorded and the bytes it passed are consumed (spec/41_frame_decoder.md R107, R108, R112). -/
theorem scanLoop_eq_scanFrom {n : Nat} {s : State} {pos : Count} (hc : s.cursor = some pos)
    (hpos : pos.toNat ≤ s.buf.length) (hcap : s.buf.length ≤ Config.cap) (hn : s.buf.length ≤ pos.toNat + n) :
    scanLoop (n + 1) s =
      .next ((s.recordEvents (scanFrom s.params n pos.toNat (s.buf.drop pos.toNat)).2).endedAfter
        (scanFrom s.params n pos.toNat (s.buf.drop pos.toNat)).1) := by
  induction n generalizing s pos with
  | zero =>
    have hend : s.positionAt pos = none :=
      decodePosition_of_length_lt (by rw [List.length_drop]; omega)
    rw [scanLoop_of_end _ hc hend, scanFrom_of_end hend, State.endScan_eq_endedAfter hc hpos, State.recordEvents_nil]
  | succ n ih =>
    have hstop := State.endScan_eq_endedAfter hc hpos
    cases hq : s.positionAt pos with
    | none =>
      rw [scanLoop_of_end _ hc hq, scanFrom_of_end hq, hstop, State.recordEvents_nil]
    | some q =>
      cases hk : q.advance with
      | none =>
        rw [scanLoop_of_stop _ hc hq hk, scanFrom_of_stop hq hk, hstop, State.recordEvents_cons,
          recordPosition_of_stop s hk, State.recordEvents_nil]
      | some k =>
        obtain ⟨hk1, hkle⟩ := (decodePosition_advance hq).2 k hk
        rw [List.length_drop] at hkle
        have hmove : (pos + BitVec.ofNat 13 k).toNat = pos.toNat + k := toNat_cursor_add (by omega)
        obtain ⟨hparams, hbuf, -⟩ := recordPosition_frame q s
        have hbuf' : ((recordPosition q s).moveCursor pos k).buf = s.buf := hbuf
        rw [scanLoop_of_advance _ hc hq hk, scanFrom_of_advance hq hk,
          ih (State.moveCursor_cursor _ pos k) (by rw [hbuf']; omega) (hbuf'.symm ▸ hcap) (by rw [hbuf']; omega)]
        simp only [State.moveCursor_params, hparams, hbuf', hmove, List.drop_drop, State.recordEvents_cons]
        rw [State.moveCursor, State.recordEvents_setCursor]
        rfl

/-- SCAN between operations is the pure scan of the buffer: the events recorded on the cleared outcome, the bytes passed consumed
(spec/41_frame_decoder.md R108). -/
theorem execScan_eq_scan {s : State} (hc : s.cursor = none) (hcap : s.buf.length ≤ Config.cap) :
    exec .scan s =
      .next ((s.clearOutcome.recordEvents (scan s.params s.buf).2).endedAfter (scan s.params s.buf).1) := by
  have hloop := scanLoop_eq_scanFrom (n := s.buf.length) (s := s.beginScan) (pos := 0) rfl (Nat.zero_le _) hcap
    (Nat.le_add_left _ _)
  rw [execScan_of_rest hc, hloop, State.beginScan, State.recordEvents_setCursor]
  rfl

/-! ### SCAN sees the buffer only -/

/-- Two states of the same outcome, as the host can read it (spec/10_state.md R23 to R25). -/
structure State.SameOutcome (s t : State) : Prop where
  nSeen : s.nSeen = t.nSeen
  nValid : s.nValid = t.nValid
  nAddrRej : s.nAddrRej = t.nAddrRej
  nBadCrc : s.nBadCrc = t.nBadCrc
  nRc : s.nRc = t.nRc
  fresh : s.fresh = t.fresh
  channels : ∀ k, s.readChannel k = t.readChannel k

/-- The same STEP keeps the same outcome. -/
theorem State.SameOutcome.recordPosition {s t : State} (h : s.SameOutcome t) (q : Position) :
    (recordPosition q s).SameOutcome (recordPosition q t) := by
  cases q with
  | addrReject => exact { h with nAddrRej := congrArg (· + 1) h.nAddrRej }
  | lenReject | wait => exact h
  | badCrc => exact { h with nSeen := congrArg (· + 1) h.nSeen, nBadCrc := congrArg (· + 1) h.nBadCrc }
  | validIgnored => exact { h with nSeen := congrArg (· + 1) h.nSeen, nValid := congrArg (· + 1) h.nValid }
  | rcChannels =>
    exact
      { nSeen := congrArg (· + 1) h.nSeen
        nValid := congrArg (· + 1) h.nValid
        nAddrRej := h.nAddrRej
        nBadCrc := h.nBadCrc
        nRc := congrArg (· + 1) h.nRc
        fresh := rfl
        channels := fun _ => rfl }

/-- The same events keep the same outcome. -/
theorem State.SameOutcome.recordEvents {s t : State} (h : s.SameOutcome t) (es : List Event) :
    (s.recordEvents es).SameOutcome (t.recordEvents es) := by
  induction es generalizing s t with
  | nil => exact h
  | cons e es ih => exact ih (h.recordPosition e.position)

/-- The entry of SCAN clears every outcome to the same one. -/
theorem State.sameOutcome_clearOutcome (s t : State) : s.clearOutcome.SameOutcome t.clearOutcome :=
  ⟨rfl, rfl, rfl, rfl, rfl, rfl, fun k => by simp [State.readChannel]⟩

/-- Settles O47: both scans record the events of the same pure scan, from the same cleared outcome. -/
theorem scanDependsOnBufferOnly : Obligations.ScanDependsOnBufferOnly := by
  intro s₁ s₂ t₁ hparams hbuf hcursor hcap h
  have hc₁ := (execScan_next h).1
  rw [execScan_eq_scan hc₁ hcap] at h
  cases h
  have hsame := (State.sameOutcome_clearOutcome s₁ s₂).recordEvents (scan s₁.params s₁.buf).2
  refine ⟨_, execScan_eq_scan (hcursor ▸ hc₁) (hbuf ▸ hcap), ?_⟩
  rw [← hparams, ← hbuf]
  refine ⟨?_, rfl, hsame.nSeen, hsame.nValid, hsame.nAddrRej, hsame.nBadCrc, hsame.nRc, hsame.fresh, rfl, hsame.channels⟩
  simp only [State.endedAfter, State.recordEvents_buf, State.clearOutcome_buf, hbuf]

/-! ### Where fresh channels come from -/

/-- A pure scan does not go back, and does not pass the end (spec/41_frame_decoder.md R112). -/
theorem scanFrom_bounds (c : Params) (n pos : Nat) (view : List Byte) :
    pos ≤ (scanFrom c n pos view).1 ∧ (scanFrom c n pos view).1 ≤ pos + view.length := by
  induction n generalizing pos view with
  | zero => exact ⟨Nat.le_refl pos, Nat.le_add_right pos _⟩
  | succ n ih =>
    cases hq : decodePosition c view with
    | none =>
      rw [scanFrom_of_end hq]
      exact ⟨Nat.le_refl pos, Nat.le_add_right pos _⟩
    | some q =>
      cases hk : q.advance with
      | none =>
        rw [scanFrom_of_stop hq hk]
        exact ⟨Nat.le_refl pos, Nat.le_add_right pos _⟩
      | some k =>
        obtain ⟨-, hkle⟩ := (decodePosition_advance hq).2 k hk
        have hrest := ih (pos + k) (view.drop k)
        rw [List.length_drop] at hrest
        rw [scanFrom_of_advance hq hk]
        exact ⟨by omega, by omega⟩

/-- An event of a pure scan is the position at its offset, and the scan passes the bytes of its advance
(spec/41_frame_decoder.md R108). -/
theorem scanFrom_event {c : Params} {n pos : Nat} {b : List Byte} {e : Event}
    (he : e ∈ (scanFrom c n pos (b.drop pos)).2) :
    decodePosition c (b.drop e.offset) = some e.position ∧
      ∀ k, e.position.advance = some k → e.offset + k ≤ (scanFrom c n pos (b.drop pos)).1 := by
  induction n generalizing pos with
  | zero => cases he
  | succ n ih =>
    cases hq : decodePosition c (b.drop pos) with
    | none =>
      rw [scanFrom_of_end hq] at he
      cases he
    | some q =>
      cases hk : q.advance with
      | none =>
        rw [scanFrom_of_stop hq hk, List.mem_singleton] at he
        subst he
        exact ⟨hq, fun k hk' => by simp [hk] at hk'⟩
      | some k =>
        rw [scanFrom_of_advance hq hk, List.drop_drop] at he ⊢
        obtain rfl | he := List.mem_cons.mp he
        · refine ⟨hq, fun k' hk' => ?_⟩
          cases hk.symm.trans hk'
          exact (scanFrom_bounds c n (pos + k) _).1
        · exact ih he

/-- The channels after the records of a scan: as they were, or of a channel-data frame among the events
(spec/41_frame_decoder.md R104). -/
theorem State.recordEvents_channels (s : State) (es : List Event) :
    ((s.recordEvents es).fresh = s.fresh ∧ (s.recordEvents es).ch = s.ch) ∨
      ∃ e ∈ es, ∃ p r, e.position = .rcChannels p r ∧ (s.recordEvents es).ch = unpackChannels p := by
  induction es generalizing s with
  | nil => exact .inl ⟨rfl, rfl⟩
  | cons e es ih =>
    obtain ⟨hfresh, hch⟩ | ⟨e', he', hrc⟩ := ih (recordPosition e.position s)
    · by_cases hq : ∃ p r, e.position = .rcChannels p r
      · obtain ⟨p, r, hq⟩ := hq
        refine .inr ⟨e, List.mem_cons_self, p, r, hq, hch.trans ?_⟩
        rw [hq]
        rfl
      · obtain ⟨hfresh', hch'⟩ := recordPosition_fresh_ch s fun p r h => hq ⟨p, r, h⟩
        exact .inl ⟨hfresh.trans hfresh', hch.trans hch'⟩
    · exact .inr ⟨e', List.mem_cons_of_mem e he', hrc⟩

/-- Settles O46: FRESH is cleared at the entry, so the channels are those of an event of class RC_CHANNELS, which decoded at its
offset. -/
theorem freshChannelsComeFromGatedFrame : Obligations.FreshChannelsComeFromGatedFrame := by
  intro s t hcap h hfresh
  rw [execScan_eq_scan (execScan_next h).1 hcap] at h
  cases h
  obtain ⟨hunset, -⟩ | ⟨e, he, p, r, hq, hch⟩ := s.clearOutcome.recordEvents_channels (scan s.params s.buf).2
  · cases hunset.symm.trans hfresh
  · obtain ⟨hdecode, hpassed⟩ := scanFrom_event (b := s.buf) he
    rw [hq] at hdecode hpassed
    obtain ⟨hwf, hprefix⟩ := decodePosition_wellFormed_prefix hdecode
    have hcrc : crc8 (s.params.typeRc :: p.toList) = r := by
      simpa [Position.toInstr, Instr.wellFormed] using hwf
    have hread : s.buf.read e.offset 26 = some (frameBytes s.params s.params.typeRc p.toList r) := by
      simpa using Memory.read_frame_of_prefix hprefix
    have hbound : (scan s.params s.buf).1 ≤ 0 + s.buf.length := (scanFrom_bounds _ _ _ _).2
    have hconsumed : (BitVec.ofNat 13 (scan s.params s.buf).1).toNat = (scan s.params s.buf).1 := by
      simp only [Config.cap] at hcap
      rw [BitVec.toNat_ofNat]
      omega
    exact ⟨e.offset, p, r, hread, hcrc, (hpassed 26 rfl).trans_eq hconsumed.symm, hch⟩

end Sys2Proof.Machine

/-! Proofs of the encoding family (spec/30_encoding.md): command words and position bytes decode and encode, the host's words run as their
commands, and SCAN of one packed frame delivers its ticks. -/

namespace Sys2Proof.Machine

/-! ### The bytes of a position decode to it -/

theorem legalLength_iff (l : Byte) : legalLength l = true ↔ 2 ≤ l.toNat ∧ l.toNat ≤ 62 := decide_eq_true_iff

theorem legalPayload_iff (p : List Byte) : legalPayload p = true ↔ p.length + 2 ≤ 62 := decide_eq_true_iff

/-- The first test of a position (spec/41_frame_decoder.md R98). -/
theorem decodePosition_of_addr_ne {c : Params} {a : Byte} (l t x : Byte) (more : List Byte) (ha : a ≠ c.addrFc) :
    decodePosition c (a :: l :: t :: x :: more) = some (.addrReject a) := by
  rw [decodePosition, if_pos ha]

/-- The second test of a position (spec/41_frame_decoder.md R99). -/
theorem decodePosition_of_illegalLength {c : Params} {l : Byte} (t x : Byte) (more : List Byte)
    (hl : legalLength l = false) : decodePosition c (c.addrFc :: l :: t :: x :: more) = some (.lenReject l) := by
  have hout : l.toNat < Config.lenMin ∨ Config.lenMax < l.toNat := by
    simpa [legalLength, imp_iff_not_or] using hl
  rw [decodePosition, if_neg (not_not.mpr rfl), if_pos hout]

/-- Past the second test, the third decides between WAIT and a complete candidate (spec/41_frame_decoder.md R100, R101). -/
theorem decodePosition_of_legalLength {c : Params} {l : Byte} (t x : Byte) (more : List Byte)
    (hl : legalLength l = true) :
    decodePosition c (c.addrFc :: l :: t :: x :: more) =
      if more.length + 4 < l.toNat + 2 then some (.wait l)
      else some (decodeCandidate c t ((x :: more).take (l.toNat - 2)) ((x :: more).getD (l.toNat - 2) 0)) := by
  have hin : ¬ (l.toNat < Config.lenMin ∨ Config.lenMax < l.toNat) := by
    simpa [legalLength] using hl
  rw [decodePosition, if_neg (not_not.mpr rfl), if_neg hin]

/-- A whole frame with a legal payload decodes as its candidate, whatever follows (spec/30_encoding.md R50, R51). -/
theorem decodePosition_frameBytes {c : Params} {t r : Byte} {p : List Byte} (rest : List Byte) (hp : p.length + 2 ≤ 62) :
    decodePosition c (frameBytes c t p r ++ rest) = some (decodeCandidate c t p r) := by
  obtain ⟨x, more, hbody⟩ : ∃ x more, p ++ r :: rest = x :: more := List.exists_cons_of_ne_nil (by simp)
  have hbytes : frameBytes c t p r ++ rest = c.addrFc :: BitVec.ofNat 8 (p.length + 2) :: t :: x :: more := by
    simp [frameBytes, ← hbody]
  have hl : (BitVec.ofNat 8 (p.length + 2)).toNat = p.length + 2 := by
    rw [BitVec.toNat_ofNat]
    omega
  have hlegal : legalLength (BitVec.ofNat 8 (p.length + 2)) = true := (legalLength_iff _).mpr (by omega)
  have havail : p.length ≤ more.length := by
    have hlen := congrArg List.length hbody
    simp only [List.length_append, List.length_cons] at hlen
    omega
  rw [hbytes, decodePosition_of_legalLength t x more hlegal, if_neg (by omega), hl, Nat.add_sub_cancel, ← hbody,
    List.take_left]
  simp

/-- The candidate of a channel-data frame's own fields is that frame (spec/41_frame_decoder.md R104). -/
theorem decodeCandidate_rcChannels {c : Params} {p : Payload} {r : Byte} (hcrc : crc8 (c.typeRc :: p.toList) = r) :
    decodeCandidate c c.typeRc p.toList r = .rcChannels p r := by
  obtain ⟨hne, -⟩ | ⟨v, hv, -, -, hd⟩ | ⟨-, hother, -⟩ := decodeCandidate_cases c c.typeRc p.toList r
  · exact absurd hcrc hne
  · rw [hd, Vector.toList_inj.mp hv]
  · simp at hother

/-- Settles O9: well-formedness decides each test of the position's bytes up to the one that selects its class; a frame's bytes
decode as its candidate. -/
theorem positionBytesDecodeToPosition : Obligations.PositionBytesDecodeToPosition := by
  intro c q rest hwf hlen hwait
  cases q with
  | addrReject a =>
    match rest, hlen with
    | l :: t :: x :: more, _ => exact decodePosition_of_addr_ne l t x more (bne_iff_ne.mp hwf)
  | lenReject l =>
    match rest, hlen with
    | t :: x :: more, _ => exact decodePosition_of_illegalLength t x more ((Bool.not_eq_true' _).mp hwf)
  | wait l =>
    have hlegal : legalLength l = true := (Bool.and_eq_true_iff.mp hwf).1
    match rest, hlen, hwait l rfl with
    | t :: x :: more, _, hshort => exact (decodePosition_of_legalLength t x more hlegal).trans (if_pos hshort)
  | badCrc t p r =>
    simp only [Position.toInstr, Instr.wellFormed, Bool.and_eq_true, legalPayload_iff, bne_iff_ne] at hwf
    obtain ⟨hp, hcrc⟩ := hwf
    rw [encodePosition, decodePosition_frameBytes rest hp, decodeCandidate, if_pos hcrc]
  | rcChannels p r =>
    rw [encodePosition, decodePosition_frameBytes rest (by simp), decodeCandidate_rcChannels (eq_of_beq hwf)]
  | validIgnored t p r =>
    simp only [Position.toInstr, Instr.wellFormed, Bool.and_eq_true, legalPayload_iff, beq_iff_eq, Bool.or_eq_true,
      bne_iff_ne, Config.rcPayload] at hwf
    obtain ⟨⟨hp, hcrc⟩, hother⟩ := hwf
    rw [encodePosition, decodePosition_frameBytes rest hp, decodeCandidate, if_neg (not_not.mpr hcrc),
      dif_neg (not_and_or.mpr hother)]

/-- Settles O10: with 4 bytes one of the tests decides, and what it decides is well formed and stands at the front. -/
theorem decodedPositionIsWellFormedPrefix : Obligations.DecodedPositionIsWellFormedPrefix := by
  refine fun c bytes => ⟨⟨fun h => ?_, fun h => ?_⟩, fun q hq => decodePosition_wellFormed_prefix hq⟩
  · obtain ⟨q, hq⟩ := Option.isSome_iff_exists.mp h
    exact (decodePosition_advance hq).1
  · match bytes, h with
    | a :: l :: t :: x :: more, _ =>
      simp only [decodePosition]
      split_ifs <;> rfl

/-! ### Command words -/

/-- A command that takes no operand decodes exactly from the word with none (spec/30_encoding.md R58). -/
theorem withoutOperand_eq_ok {w : CommandWord} {name : String} {i j : Instr} :
    withoutOperand w name i = .ok j ↔ w.operand = [] ∧ i = j := by
  unfold withoutOperand
  split <;> simp_all

/-- Settles O7: forth by the command code, back by the instruction, whose position classes have no command word. -/
theorem commandWordsDecodeAndEncode : Obligations.CommandWordsDecodeAndEncode := by
  rintro c ⟨cmd, operand⟩ i
  constructor <;> intro h
  · unfold decodeCommand at h
    split at h <;> rename_i hcode <;> cases hcode
    case h_1 | h_3 | h_4 =>
      obtain ⟨rfl, rfl⟩ := withoutOperand_eq_ok.mp h
      rfl
    case h_2 | h_5 | h_6 | h_7 | h_8 =>
      cases h
      rfl
  · cases i <;> cases h <;> rfl

/-- Settles O8: each word, written out, decodes as the table says. -/
theorem commandCodesOfTheTable : Obligations.CommandCodesOfTheTable := by
  unfold Obligations.CommandCodesOfTheTable
  decide

/-! ### The host's words run as their commands -/

/-- Settles O4: the step takes the word off and runs what it decodes to. -/
theorem stepRunsPresentedCommand : Obligations.StepRunsPresentedCommand := by
  intro s w rest i hc ht hi
  simp only [step_of_event hc ht, runEvent, hi]

/-- FEED between operations (spec/40_reassembly_buffer.md R71 to R75). -/
theorem execFeed_of_rest {s : State} (chunk : List Byte) (hc : s.cursor = none) :
    exec (.feed chunk) s = .next
      { s with
        buf := s.buf.feed chunk
        dropped := cutFromChunk chunk + evictedBy s.buf chunk
        status := .ok } :=
  State.atRest_of_none hc _

/-- Settles O6: the FEED of the first word answers a next state between operations, where the second word is SCAN. -/
theorem rxLineIsFeedThenScan : Obligations.RxLineIsFeedThenScan := by
  intro s chunk hc ht
  have hfeed := stepRunsPresentedCommand s _ _ (.feed chunk) hc ht rfl
  refine ⟨_, hfeed.trans (execFeed_of_rest chunk hc), ?_⟩
  rw [receive, execFeed_of_rest (s := { s with trace := [] }) chunk hc]
  exact stepRunsPresentedCommand _ _ _ .scan hc rfl rfl

/-! ### Reserved codes and operations out of place -/

/-- Settles O30: between operations the refusal is all that either code does. -/
theorem reservedCommandsAreRefused : Obligations.ReservedCommandsAreRefused :=
  fun _ _ hc => ⟨State.atRest_of_none hc _, State.atRest_of_none hc _⟩

/-- Settles O31: every command runs at rest only, and every class of a position at a cursor only. -/
theorem operationsOutOfPlaceStopByName : Obligations.OperationsOutOfPlaceStopByName := by
  intro s i
  refine ⟨fun pos hc hcommand => ?_, fun hc hstream => ?_⟩
  · obtain ⟨w, hw⟩ := hcommand
    cases i with
    | idle | feed | scan | clear | unpack | crc8 | reserved110 | reserved111 => exact State.atRest_of_some hc _
    | addrReject | lenReject | wait | badCrc | rcChannels | validIgnored => cases hw
  · obtain ⟨bytes, hbytes⟩ := hstream
    cases i with
    | idle | feed | scan | clear | unpack | crc8 | reserved110 | reserved111 => cases hbytes
    | addrReject | lenReject | wait | badCrc | rcChannels | validIgnored => exact State.atCursor_of_none hc _

/-! ### Packed ticks -/

/-- A byte sequence from offset `i` on, as an integer (spec/20_memory.md R37). -/
theorem littleEndian_shiftRight (s : List Byte) (i : Nat) : littleEndian s >>> (8 * i) = littleEndian (s.drop i) := by
  induction s generalizing i with
  | nil => simp [littleEndian]
  | cons b s ih =>
    cases i with
    | zero => rfl
    | succ i =>
      have hb : b.toNat < 256 := b.isLt
      rw [List.drop_succ_cons, ← ih, Nat.mul_succ, Nat.add_comm, Nat.shiftRight_add, littleEndian]
      congr 1
      omega

/-- The field of a tick in the integer of its list (spec/95_test_vectors.md section 4). -/
theorem ticksInteger_field (ts : List Tick) (k : Nat) (hk : k < ts.length) :
    (ticksInteger ts >>> (11 * k)) % 2048 = ts[k].toNat := by
  induction ts generalizing k with
  | nil => cases hk
  | cons t ts ih =>
    have ht : t.toNat < 2048 := t.isLt
    cases k with
    | zero =>
      simp only [ticksInteger, Config.fieldW, List.getElem_cons_zero, Nat.mul_zero, Nat.shiftRight_zero]
      omega
    | succ k =>
      have hrest : ticksInteger (t :: ts) >>> 11 = ticksInteger ts := by
        simp only [ticksInteger, Config.fieldW]
        omega
      rw [Nat.mul_succ, Nat.add_comm, Nat.shiftRight_add, hrest, List.getElem_cons_succ, ih]

/-- Ticks of 11 bits each fill as many bits (spec/95_test_vectors.md section 4). -/
theorem ticksInteger_lt (ts : List Tick) : ticksInteger ts < 2048 ^ ts.length := by
  induction ts with
  | nil => exact Nat.one_pos
  | cons t ts ih =>
    have ht : t.toNat < 2048 := t.isLt
    rw [List.length_cons, Nat.pow_succ]
    simp only [ticksInteger, Config.fieldW]
    omega

/-- The first `n` bytes of an integer, least significant first, hold it up to `256 ^ n`. -/
theorem littleEndian_ofFn (n w : Nat) :
    littleEndian (List.ofFn fun j : Fin n => BitVec.ofNat 8 (w >>> (8 * j.val))) = w % 256 ^ n := by
  induction n generalizing w with
  | zero => simp [littleEndian, Nat.mod_one]
  | succ n ih =>
    have htail (j : Fin n) : w >>> (8 * j.succ.val) = (w >>> 8) >>> (8 * j.val) := by
      rw [Fin.val_succ, Nat.mul_succ, Nat.add_comm, Nat.shiftRight_add]
    simp only [List.ofFn_succ, littleEndian, htail, ih]
    rw [Nat.pow_succ', Nat.mod_mul, Nat.shiftRight_eq_div_pow w 8, BitVec.toNat_ofNat]
    rfl

/-- The payload of a pack is the integer of its ticks (spec/95_test_vectors.md section 4). -/
theorem littleEndian_packTicks (t : Vector Tick 16) : littleEndian (packTicks t).toList = ticksInteger t.toList := by
  have hlt := ticksInteger_lt t.toList
  rw [Vector.length_toList, show 2048 ^ 16 = 256 ^ 22 by norm_num] at hlt
  rw [packTicks, Vector.toList_ofFn, littleEndian_ofFn, Nat.mod_eq_of_lt hlt]

/-- A window's bytes as an integer, which 24 bits hold: the third counts where the field reaches it
(spec/42_channel_unpacker.md R121). -/
theorem window_toNat (p : Payload) (k : Channel) :
    (window p k).toNat =
      if h : 6 ≤ 11 * k.val % 8 then
        p[11 * k.val / 8].toNat + 256 * p[11 * k.val / 8 + 1].toNat + 65536 * p[11 * k.val / 8 + 2].toNat
      else p[11 * k.val / 8].toNat + 256 * p[11 * k.val / 8 + 1].toNat := by
  simp only [window]
  split <;> simp <;> omega

/-- The bytes from a window's offset on are the window and, above the field, the bytes after it (spec/42_channel_unpacker.md R121,
R122). -/
theorem littleEndian_drop_eq_window (p : Payload) (k : Channel) :
    ∃ m y, 11 * k.val % 8 + 11 ≤ m ∧
      littleEndian (p.toList.drop (11 * k.val / 8)) = (window p k).toNat + 2 ^ m * y := by
  have hk : k.val < 16 := k.isLt
  rw [window_toNat, List.drop_eq_getElem_cons (by simp; omega), List.drop_eq_getElem_cons (by simp; omega)]
  split
  · refine ⟨24, littleEndian (p.toList.drop (11 * k.val / 8 + 3)), by omega, ?_⟩
    rw [List.drop_eq_getElem_cons (by simp; omega)]
    simp only [littleEndian, Vector.getElem_toList, Nat.add_assoc, Nat.reduceAdd]
    omega
  · refine ⟨16, littleEndian (p.toList.drop (11 * k.val / 8 + 2)), by omega, ?_⟩
    simp only [littleEndian, Vector.getElem_toList, Nat.add_assoc, Nat.reduceAdd]
    omega

/-- The field of an integer shifted by `o` is 11 bits wide: what stands at bit `m` and above does not show in it. -/
theorem field_add_two_pow_mul (x y : Nat) {o m : Nat} (h : o + 11 ≤ m) :
    ((x + 2 ^ m * y) >>> o) % 2048 = (x >>> o) % 2048 := by
  obtain ⟨d, rfl⟩ := Nat.exists_eq_add_of_le h
  rw [Nat.shiftRight_eq_div_pow, Nat.shiftRight_eq_div_pow, Nat.pow_add, Nat.pow_add, Nat.mul_assoc, Nat.mul_assoc,
    Nat.add_mul_div_left _ _ (Nat.two_pow_pos o), Nat.add_mul_mod_self_left]

/-- The tick of a channel is its field of the payload as one integer (spec/42_channel_unpacker.md R121). -/
theorem extract_toNat (p : Payload) (k : Channel) :
    (extract p k).toNat = (littleEndian p.toList >>> (11 * k.val)) % 2048 := by
  obtain ⟨m, y, hm, hbytes⟩ := littleEndian_drop_eq_window p k
  have hsplit : 11 * k.val = 8 * (11 * k.val / 8) + 11 * k.val % 8 := (Nat.div_add_mod _ 8).symm
  have hmask : (0x7FF : BitVec 24).toNat = 2 ^ 11 - 1 := rfl
  calc (extract p k).toNat
    _ = ((window p k).toNat >>> (11 * k.val % 8)) % 2048 := by
      rw [extract, BitVec.toNat_setWidth, BitVec.toNat_and, BitVec.toNat_ushiftRight, hmask,
        Nat.and_two_pow_sub_one_eq_mod, Nat.mod_mod]
    _ = (littleEndian (p.toList.drop (11 * k.val / 8)) >>> (11 * k.val % 8)) % 2048 := by
      rw [hbytes, field_add_two_pow_mul _ _ hm]
    _ = (littleEndian p.toList >>> (11 * k.val)) % 2048 := by
      rw [← littleEndian_shiftRight, ← Nat.shiftRight_add, ← hsplit]

/-- The ticks packed into a payload are the ticks extracted from it (spec/95_test_vectors.md section 4, laws). -/
theorem extract_packTicks (t : Vector Tick 16) (k : Channel) : extract (packTicks t) k = t[k] := by
  apply BitVec.eq_of_toNat_eq
  rw [extract_toNat, littleEndian_packTicks, ticksInteger_field _ _ (by simp)]
  simp

/-- A packed payload unpacks to the conversions of its ticks (spec/42_channel_unpacker.md R123). -/
theorem unpackChannels_packTicks (t : Vector Tick 16) (k : Channel) :
    (unpackChannels (packTicks t))[k] = ticksToUs t[k] := by
  rw [← extract_packTicks t k]
  simp [unpackChannels]

/-! ### SCAN of a packed frame -/

/-- A channel-data frame at the front is the first event of a scan, and the rest of the scan follows (spec/41_frame_decoder.md R104,
R105). -/
theorem scanFrom_rcFrame {c : Params} {p : Payload} {r : Byte} (n pos : Nat) (rest : List Byte)
    (hcrc : crc8 (c.typeRc :: p.toList) = r) :
    scanFrom c (n + 1) pos (frameBytes c c.typeRc p.toList r ++ rest) =
      ((scanFrom c n (pos + 26) rest).1,
        ⟨pos, .rcChannels p r, some (unpackChannels p)⟩ :: (scanFrom c n (pos + 26) rest).2) := by
  have hdecode : decodePosition c (frameBytes c c.typeRc p.toList r ++ rest) = some (.rcChannels p r) := by
    rw [decodePosition_frameBytes rest (by simp), decodeCandidate_rcChannels hcrc]
  have hdrop : (frameBytes c c.typeRc p.toList r ++ rest).drop 26 = rest := List.drop_left' (by simp [frameBytes])
  rw [scanFrom_of_advance hdecode rfl, hdrop]
  rfl

/-- The scan of one channel-data frame passes it and has it as its one event. -/
theorem scan_rcFrame {c : Params} {p : Payload} {r : Byte} (hcrc : crc8 (c.typeRc :: p.toList) = r) :
    scan c (frameBytes c c.typeRc p.toList r) = (26, [⟨0, .rcChannels p r, some (unpackChannels p)⟩]) := by
  have hlen : (frameBytes c c.typeRc p.toList r).length = 25 + 1 := by simp [frameBytes]
  have hend : decodePosition c [] = none := rfl
  have hscan := scanFrom_rcFrame 25 0 [] hcrc
  rw [List.append_nil, scanFrom_of_end hend] at hscan
  rw [scan, hlen, hscan]

/-- Settles O45: the scan has the frame as its one event, whose record counts one channel-data frame and delivers its ticks. -/
theorem scanOfPackedFrameDeliversTicks : Obligations.ScanOfPackedFrameDeliversTicks := by
  intro s t hc hbuf
  have hlen : s.buf.length = 26 := by simp [hbuf, frameBytes]
  have hscan : scan s.params s.buf = _ := hbuf ▸ scan_rcFrame rfl
  refine ⟨_, execScan_eq_scan hc (by rw [hlen]; decide), ?_⟩
  rw [hscan]
  refine ⟨List.drop_of_length_le hlen.le, rfl, rfl, rfl, rfl, rfl, rfl, fun k => ?_⟩
  exact congrArg some (unpackChannels_packTicks t k)

end Sys2Proof.Machine

/-! Proofs of the reassembly buffer family (spec/40_reassembly_buffer.md): the commands on the buffer, FEED as the last `CAP` bytes, and
FEEDs one after the other. -/

namespace Sys2Proof.Machine

/-! ### IDLE, CONSUME and CLEAR -/

/-- Settles O13: a prefix inside the buffer is dropped, and one past its end is refused. -/
theorem consumeDropsPrefixOrRefuses : Obligations.ConsumeDropsPrefixOrRefuses :=
  fun _ _ => ⟨fun h => ⟨_, Memory.consume_of_le h, List.length_drop, fun _ => List.getElem?_drop⟩, Memory.consume_of_lt⟩

/-- Settles O14: between operations the write of STATUS is all that IDLE does. -/
theorem idleWritesStatusOnly : Obligations.IdleWritesStatusOnly := fun _ hc => State.atRest_of_none hc _

/-- Settles O18: between operations the writes of the buffer and STATUS are all that CLEAR does. -/
theorem clearEmptiesBufferOnly : Obligations.ClearEmptiesBufferOnly := fun _ hc => State.atRest_of_none hc _

/-! ### The last `CAP` bytes -/

/-- The last `CAP` bytes are what is left without those that do not fit (spec/40_reassembly_buffer.md R74). -/
theorem lastBytes_cap (bytes : List Byte) : lastBytes Config.cap bytes = bytes.drop (overflow bytes.length) := by
  rw [lastBytes, overflow, Nat.min_comm]

/-- Bytes that fit are all kept. -/
theorem lastBytes_cap_of_le {bytes : List Byte} (h : bytes.length ≤ Config.cap) : lastBytes Config.cap bytes = bytes := by
  rw [lastBytes_cap, overflow_of_le h, List.drop_zero]

/-- What does not fit, counted in two parts: that of the first bytes, then that of those kept with more after them. -/
theorem overflow_add_overflow (n k : Nat) : overflow n + overflow (n - overflow n + k) = overflow (n + k) := by
  simp only [overflow]
  omega

/-- The length of the last `CAP` bytes. -/
theorem length_lastBytes_cap (bytes : List Byte) :
    (lastBytes Config.cap bytes).length = bytes.length - overflow bytes.length := by
  rw [lastBytes_cap, List.length_drop]

/-- The last `CAP` bytes fit. -/
theorem length_lastBytes_cap_le (bytes : List Byte) : (lastBytes Config.cap bytes).length ≤ Config.cap := by
  rw [length_lastBytes_cap]
  simp only [overflow]
  omega

/-- Bytes dropped before more bytes come would have been dropped with them (spec/40_reassembly_buffer.md R74). -/
theorem lastBytes_cap_append (front more : List Byte) :
    lastBytes Config.cap (lastBytes Config.cap front ++ more) = lastBytes Config.cap (front ++ more) := by
  have hsplit := overflow_add_overflow front.length more.length
  rw [lastBytes_cap (_ ++ more), lastBytes_cap (front ++ more), List.length_append, List.length_append,
    length_lastBytes_cap, lastBytes_cap, ← List.drop_append_of_le_length (overflow_le _), List.drop_drop, hsplit]

/-! ### FEED -/

/-- Settles O15: FEED as one drop, in the spec's words of the last `CAP` bytes. -/
theorem feedKeepsLastCapBytes : Obligations.FeedKeepsLastCapBytes := by
  intro s chunk hc
  rw [execFeed_of_rest chunk hc, Memory.feed_eq_drop, cutFromChunk_add_evictedBy, lastBytes_cap, List.length_append]

/-- FEEDs one after the other leave the last `CAP` bytes of all, and their `DROPPED` add up to all that does not fit
(spec/40_reassembly_buffer.md R74). -/
theorem feedAll_of_rest {s : State} (total : Nat) (chunks : List (List Byte)) (hc : s.cursor = none)
    (hcap : s.buf.length ≤ Config.cap) :
    ∃ t, feedAll total chunks s = some (total + overflow (s.buf.length + chunks.flatten.length), t) ∧
      t.buf = lastBytes Config.cap (s.buf ++ chunks.flatten) := by
  induction chunks generalizing s total with
  | nil =>
    refine ⟨s, ?_, ?_⟩
    · rw [List.flatten_nil, List.length_nil, Nat.add_zero, overflow_of_le hcap]
      rfl
    · rw [List.flatten_nil, List.append_nil, lastBytes_cap_of_le hcap]
  | cons chunk chunks ih =>
    obtain ⟨t, hall, hbuf⟩ := ih (total := total + overflow (s.buf.length + chunk.length))
      (s := { s with
        buf := lastBytes Config.cap (s.buf ++ chunk)
        dropped := overflow (s.buf.length + chunk.length)
        status := .ok }) hc (length_lastBytes_cap_le _)
    refine ⟨t, ?_, ?_⟩
    · rw [feedAll, feedKeepsLastCapBytes s chunk hc]
      refine hall.trans ?_
      rw [length_lastBytes_cap, List.length_append, Nat.add_assoc, overflow_add_overflow, List.flatten_cons,
        List.length_append, Nat.add_assoc]
    · rw [hbuf, lastBytes_cap_append, List.append_assoc, List.flatten_cons]

/-- Settles O17: the FEEDs of the pieces and the one FEED of the whole both leave the last `CAP` bytes of all. -/
theorem feedIsAssociativeOverChunking : Obligations.FeedIsAssociativeOverChunking := by
  intro s chunks hc hcap
  obtain ⟨t, hall, hbuf⟩ := feedAll_of_rest 0 chunks hc hcap
  exact ⟨t, _, _, hall, feedKeepsLastCapBytes s chunks.flatten hc, hbuf, Nat.zero_add _, rfl⟩

end Sys2Proof.Machine

/-! Proofs of the frame decoder family (spec/41_frame_decoder.md), the checksum: one byte is a bijection of the accumulator and linear, which
gives the laws of the whole check. -/

namespace Sys2Proof.Machine

/-! ### One byte of the check -/

/-- A shift step is linear: the generator is subtracted once for each operand whose top bit is set (spec/41_frame_decoder.md R92 (a)). -/
theorem crcShift_xor (c d : Byte) : crcShift (c ^^^ d) = crcShift c ^^^ crcShift d := by
  simp only [crcShift, BitVec.msb_xor, BitVec.shiftLeft_xor_distrib]
  have hcancel (x y p : Byte) : x ^^^ y = (x ^^^ p) ^^^ (y ^^^ p) := by
    rw [BitVec.xor_assoc, ← BitVec.xor_assoc p, BitVec.xor_comm p y, BitVec.xor_assoc y, BitVec.xor_self, BitVec.xor_zero]
  cases c.msb <;> cases d.msb
  · rfl
  · exact BitVec.xor_assoc _ _ _
  · show c <<< 1 ^^^ d <<< 1 ^^^ Config.crcPoly = (c <<< 1 ^^^ Config.crcPoly) ^^^ d <<< 1
    ac_rfl
  · exact hcancel _ _ _

theorem crcShifts_xor (n : Nat) (c d : Byte) : crcShifts n (c ^^^ d) = crcShifts n c ^^^ crcShifts n d := by
  induction n generalizing c d with
  | zero => rfl
  | succ n ih => rw [crcShifts, crcShift_xor, ih, ← crcShifts, ← crcShifts]

/-- A shift step loses nothing, since the generator has a constant term (spec/41_frame_decoder.md R92 (d)). -/
theorem crcShift_eq_zero_iff : ∀ c : Byte, crcShift c = 0 ↔ c = 0 := by decide +kernel

theorem crcShifts_eq_zero_iff (n : Nat) (c : Byte) : crcShifts n c = 0 ↔ c = 0 := by
  induction n generalizing c with
  | zero => rfl
  | succ n ih => rw [crcShifts, ih, crcShift_eq_zero_iff]

theorem crcByte_xor (c d a b : Byte) : crcByte (c ^^^ d) (a ^^^ b) = crcByte c a ^^^ crcByte d b := by
  rw [crcByte, crcByte, crcByte, ← crcShifts_xor]
  congr 1
  ac_rfl

/-- The accumulator after a byte is 0 exactly when the byte was the accumulator (spec/41_frame_decoder.md R92 (c)). -/
theorem crcByte_eq_zero_iff (c b : Byte) : crcByte c b = 0 ↔ c = b :=
  (crcShifts_eq_zero_iff 8 _).trans BitVec.xor_eq_zero_iff

/-- Two accumulators and bytes give the same accumulator exactly when they differ in the same bits. -/
theorem crcByte_eq_crcByte_iff (c d a b : Byte) : crcByte c a = crcByte d b ↔ c ^^^ d = a ^^^ b := by
  rw [← BitVec.xor_eq_zero_iff, ← crcByte_xor]
  exact crcByte_eq_zero_iff _ _

/-! ### The check of a sequence -/

theorem crc8_eq_foldl (s : List Byte) : crc8 s = s.foldl crcByte 0 := BitVec.xor_zero

theorem crc8_append_singleton (s : List Byte) (r : Byte) : crc8 (s ++ [r]) = crcByte (crc8 s) r := by
  rw [crc8_eq_foldl, crc8_eq_foldl, List.foldl_append, List.foldl_cons, List.foldl_nil]

/-- The residue (spec/41_frame_decoder.md R92 (c)). -/
theorem crc8_append_singleton_eq_zero_iff (s : List Byte) (r : Byte) : crc8 (s ++ [r]) = 0 ↔ crc8 s = r := by
  rw [crc8_append_singleton, crcByte_eq_zero_iff]

/-- The accumulators over the exclusive or of two sequences, from the exclusive or of two initial values. -/
theorem foldl_crcByte_zipWith_xor (a b : List Byte) (c d : Byte) (h : a.length = b.length) :
    (List.zipWith (· ^^^ ·) a b).foldl crcByte (c ^^^ d) = a.foldl crcByte c ^^^ b.foldl crcByte d := by
  induction a generalizing b c d with
  | nil =>
    cases List.length_eq_zero_iff.mp h.symm
    rfl
  | cons x a ih =>
    match b, h with
    | y :: b, h =>
      rw [List.zipWith_cons_cons, List.foldl_cons, crcByte_xor, ih b _ _ (Nat.succ.inj h), List.foldl_cons, List.foldl_cons]

/-- The same bytes never bring two accumulators together. -/
theorem foldl_crcByte_injective (s : List Byte) : Function.Injective fun c => s.foldl crcByte c := by
  induction s with
  | nil => exact fun _ _ h => h
  | cons b s ih =>
    intro c d h
    have hbyte : c ^^^ d = b ^^^ b := (crcByte_eq_crcByte_iff c d b b).mp (ih h)
    rwa [BitVec.xor_self, BitVec.xor_eq_zero_iff] at hbyte

/-- Settles O21: linearity from that of one byte, the leading zero from the zero initial value, the residue from the last byte. -/
theorem crcLinearZeroPrefixResidue : Obligations.CrcLinearZeroPrefixResidue := by
  refine ⟨fun a b h => ?_, fun s => ?_, crc8_append_singleton_eq_zero_iff, by decide +kernel⟩
  · rw [crc8_eq_foldl, crc8_eq_foldl, crc8_eq_foldl, ← foldl_crcByte_zipWith_xor a b 0 0 h]
    rfl
  · rw [crc8_eq_foldl, crc8_eq_foldl, List.foldl_cons, (crcByte_eq_zero_iff 0 0).mpr rfl]

/-! ### The table form -/

theorem crcTable_getElem?_toNat : ∀ v : Byte, crcTable[v.toNat]? = some (crc8 [v]) := by decide +kernel

/-- One look-up in the table is one byte of the check (spec/41_frame_decoder.md R91). -/
theorem crcTable_lookup (c b : Byte) : crcTable.getD (c ^^^ b).toNat 0 = crcByte c b := by
  rw [List.getD_eq_getElem?_getD, crcTable_getElem?_toNat, Option.getD_some, crc8_eq_foldl, List.foldl_cons, List.foldl_nil,
    crcByte_eq_crcByte_iff, BitVec.xor_assoc, BitVec.xor_self, BitVec.xor_comm]
  rfl

/-- Settles O20: the entries by evaluation, the table form by its look-up at each byte. -/
theorem crcTableFormEqualsBitSerial : Obligations.CrcTableFormEqualsBitSerial := by
  refine ⟨crcTable_getElem?_toNat, fun s => ?_⟩
  rw [crc8_eq_foldl, crc8ByTable]
  simp only [crcTable_lookup]

/-! ### Single-bit errors -/

/-- Flipping a bit changes a byte. -/
theorem xor_bit_ne : ∀ (x : Byte) (b : Fin 8), x ^^^ (1 <<< b.val) ≠ x := by decide +kernel

/-- A flipped bit changes its byte alone. -/
theorem flipBit_append_cons (front back : List Byte) (x : Byte) (b : Fin 8) :
    flipBit (front ++ x :: back) front.length b = front ++ (x ^^^ (1 <<< b.val)) :: back := by
  simp [flipBit, List.modify_eq_set]

/-- Settles O22: the flipped byte changes the accumulator, and the bytes after it keep the difference. -/
theorem crcDetectsEverySingleBitError : Obligations.CrcDetectsEverySingleBitError := by
  intro s j b hj heq
  obtain ⟨front, x, back, rfl, rfl⟩ : ∃ front x back, s = front ++ x :: back ∧ front.length = j :=
    ⟨s.take j, s[j], s.drop (j + 1), by simp, by simp; omega⟩
  rw [flipBit_append_cons, crc8_eq_foldl, crc8_eq_foldl, List.foldl_append, List.foldl_append, List.foldl_cons,
    List.foldl_cons] at heq
  have hbyte := (crcByte_eq_crcByte_iff _ _ _ _).mp (foldl_crcByte_injective back heq)
  rw [BitVec.xor_self] at hbyte
  exact xor_bit_ne x b (BitVec.xor_eq_zero_iff.mp hbyte.symm)

/-- Settles O19: between operations the writes of CRC_OUT and STATUS are all that CRC8 does. -/
theorem crc8CommandWritesCrcOut : Obligations.Crc8CommandWritesCrcOut := fun _ _ hc => State.atRest_of_none hc _

end Sys2Proof.Machine

/-! Proofs of the frame decoder family, the STEPs: the position whose bytes stand at the cursor is what the step runs. -/

namespace Sys2Proof.Machine

/-! ### The position at the cursor -/

/-- The bytes of a read stand at its offset. -/
theorem Memory.drop_of_read {m : Memory} {off n : Nat} {bytes : List Byte} (h : m.read off n = some bytes) :
    m.drop off = bytes ++ m.drop (off + n) := by
  obtain ⟨-, rfl⟩ := Memory.read_eq_some h
  rw [← List.drop_drop, List.take_append_drop]

/-- A byte that is held stands at its offset. -/
theorem State.drop_of_readByte {s : State} {i : Nat} {a : Byte} (h : s.readByte i = some a) :
    s.buf.drop i = a :: s.buf.drop (i + 1) := by
  obtain ⟨hi, rfl⟩ := List.getElem?_eq_some_iff.mp h
  exact List.drop_eq_getElem_cons hi

/-- A step with a SCAN in progress runs the position that the bytes at the cursor decode to (spec/41_frame_decoder.md R97). -/
theorem step_of_positionAt {s : State} {pos : Count} {q : Position} (hc : s.cursor = some pos)
    (hq : s.positionAt pos = some q) : step s = exec q.toInstr s := by
  rw [step_at_cursor hc, hq, exec_toInstr]

/-- Settles O5: the decoder on the bytes from the cursor decides between the STEP and the end of the scan. -/
theorem stepRunsPositionAtCursor : Obligations.StepRunsPositionAtCursor := by
  refine fun s pos hc => ⟨fun h => ?_, fun q => step_of_positionAt hc, fun hpos hshort => ?_⟩
  · refine (decodedPositionIsWellFormedPrefix s.params _).1.mpr ?_
    rw [List.length_drop]
    omega
  · have hend : s.positionAt pos = none := decodePosition_of_length_lt (by rw [List.length_drop]; omega)
    rw [step_at_cursor hc, hend]
    exact State.endScan_of_le hc hpos

/-- The step runs the well-formed position whose bytes stand at the cursor, with 4 bytes left there and, for WAIT, fewer than the
declared frame has (spec/30_encoding.md R50, R55). -/
theorem step_of_encodedPosition {s : State} {pos : Count} {q : Position} {rest : List Byte} (hc : s.cursor = some pos)
    (hwf : q.toInstr.wellFormed s.params = true) (hbytes : s.buf.drop pos.toNat = encodePosition s.params q ++ rest)
    (hlen : pos.toNat + 4 ≤ s.buf.length)
    (hwait : ∀ l, q = .wait l → s.buf.length < pos.toNat + l.toNat + 2) : step s = exec q.toInstr s := by
  have hleft : (encodePosition s.params q ++ rest).length = s.buf.length - pos.toNat := by
    rw [← hbytes, List.length_drop]
  refine step_of_positionAt hc ?_
  rw [State.positionAt, hbytes]
  refine positionBytesDecodeToPosition s.params q rest hwf (by omega) fun l hl => ?_
  have hshort := hwait l hl
  omega

/-- The step runs the complete well-formed candidate that a read at the cursor gives (spec/41_frame_decoder.md R101). -/
theorem step_of_read_frame {s : State} {pos : Count} {q : Position} {t r : Byte} {p : List Byte} (hc : s.cursor = some pos)
    (hread : s.buf.read pos.toNat (p.length + 4) = some (frameBytes s.params t p r))
    (hframe : encodePosition s.params q = frameBytes s.params t p r) (hq : q.causeCode ≠ 3)
    (hwf : q.toInstr.wellFormed s.params = true) : step s = exec q.toInstr s := by
  have hle := (Memory.read_eq_some hread).1
  refine step_of_encodedPosition hc hwf (hframe ▸ Memory.drop_of_read hread) (by omega) fun l hl => ?_
  subst hl
  exact absurd rfl hq

/-! ### The classes of a position -/

/-- Settles O32: the byte at the cursor is the position's one byte, and the first test takes it. -/
theorem addrRejectCountsAndAdvancesOne : Obligations.AddrRejectCountsAndAdvancesOne := by
  refine fun s pos a hc => ⟨State.atCursor_of_some hc _, fun hlen ha hne => ?_⟩
  exact step_of_encodedPosition (q := .addrReject a) hc (bne_iff_ne.mpr hne) (State.drop_of_readByte ha) hlen nofun

/-- The header of a position at the cursor, as two reads of a byte. -/
theorem State.drop_of_header {s : State} {i : Nat} {a l : Byte} (ha : s.readByte i = some a)
    (hl : s.readByte (i + 1) = some l) : s.buf.drop i = [a, l] ++ s.buf.drop (i + 2) := by
  rw [State.drop_of_readByte ha, State.drop_of_readByte hl]
  rfl

/-- Settles O33: the two bytes at the cursor are the position's, and the second test takes it. -/
theorem lenRejectAdvancesOneUncounted : Obligations.LenRejectAdvancesOneUncounted := by
  refine fun s pos l hc => ⟨State.atCursor_of_some hc _, fun hlen ha hl hout => ?_⟩
  have hwf : (!legalLength l) = true := by
    rw [Bool.not_eq_true', ← Bool.not_eq_true, legalLength_iff]
    omega
  exact step_of_encodedPosition (q := .lenReject l) hc hwf (State.drop_of_header ha hl) hlen nofun

/-- Settles O34: the two bytes at the cursor are the position's; it declares more than the 4 bytes that are left, so not a length
of 2. -/
theorem waitEndsTheScanInPlace : Obligations.WaitEndsTheScanInPlace := by
  refine fun s pos l hc hpos => ⟨State.endScan_of_le hc hpos, fun hlen ha hl hmin hmax hshort => ?_⟩
  have hne : l ≠ 2 := by
    rintro rfl
    simp only [BitVec.reduceToNat] at hshort
    omega
  have hwf : (legalLength l && l != 2) = true :=
    Bool.and_eq_true_iff.mpr ⟨(legalLength_iff l).mpr ⟨hmin, hmax⟩, bne_iff_ne.mpr hne⟩
  refine step_of_encodedPosition (q := .wait l) hc hwf (State.drop_of_header ha hl) hlen fun l' hl' => ?_
  cases hl'
  exact hshort

/-- Settles O35: the frame at the cursor is the position's, and the mismatch makes it well formed. -/
theorem badCrcCountsAndAdvancesOne : Obligations.BadCrcCountsAndAdvancesOne := by
  refine fun s pos t p r hc => ⟨State.atCursor_of_some hc _, fun hp hread hcrc => ?_⟩
  refine step_of_read_frame (q := .badCrc t p r) hc hread rfl (by decide : 4 ≠ 3) ?_
  simpa [Position.toInstr, Instr.wellFormed, legalPayload_iff] using And.intro hp hcrc

/-- Settles O36: the 26 bytes at the cursor are the position's, and the match makes it well formed. -/
theorem rcChannelsDeliversAndAdvances : Obligations.RcChannelsDeliversAndAdvances := by
  refine fun s pos p r hc => ⟨State.atCursor_of_some hc _, fun hread hcrc => ?_⟩
  exact step_of_read_frame (q := .rcChannels p r) hc (by simpa using hread) rfl (by decide : 5 ≠ 3) (beq_iff_eq.mpr hcrc)

/-- Settles O37: the frame at the cursor is the position's, and what keeps it from the unpacker makes it well formed. -/
theorem validIgnoredPassesWholeFrame : Obligations.ValidIgnoredPassesWholeFrame := by
  refine fun s pos t p r hc => ⟨State.atCursor_of_some hc _, fun hp hread hcrc hother => ?_⟩
  refine step_of_read_frame (q := .validIgnored t p r) hc hread rfl (by decide : 6 ≠ 3) ?_
  simpa [Position.toInstr, Instr.wellFormed, legalPayload_iff, Config.rcPayload] using And.intro (And.intro hp hcrc) hother

/-! ### A flipped bit in a frame -/

/-- A bit flipped behind the header of a frame is a bit flipped in type, payload and crc. -/
theorem flipBit_frameBytes (c : Params) (t : Byte) (p : List Byte) (r : Byte) (j : Nat) (b : Fin 8) :
    flipBit (frameBytes c t p r) (j + 2) b =
      c.addrFc :: BitVec.ofNat 8 (p.length + 2) :: flipBit (t :: p ++ [r]) j b := rfl

/-- Type, payload and crc of a frame: as many bytes as a payload's and two more. -/
theorem exists_frame_body {bytes : List Byte} {n : Nat} (h : bytes.length = n + 2) :
    ∃ t p r, bytes = t :: p ++ [r] ∧ p.length = n := by
  match bytes, h with
  | t :: body, h =>
    have hne : body ≠ [] := by
      rintro rfl
      cases h
    refine ⟨t, body.dropLast, body.getLast hne, ?_, ?_⟩
    · rw [List.cons_append, List.dropLast_append_getLast]
    · rw [List.length_dropLast]
      simp only [List.length_cons] at h
      omega

/-- The bytes of a well-formed valid position are a frame of legal length whose crc matches (spec/41_frame_decoder.md R103). -/
theorem encodePosition_of_valid {c : Params} {q : Position} (hwf : q.toInstr.wellFormed c = true)
    (hvalid : q.causeCode = 5 ∨ q.causeCode = 6) :
    ∃ t p r, encodePosition c q = frameBytes c t p r ∧ p.length + 2 ≤ 62 ∧ crc8 (t :: p) = r := by
  cases q with
  | addrReject | lenReject | wait | badCrc => simp [Position.causeCode] at hvalid
  | rcChannels p r => exact ⟨c.typeRc, p.toList, r, rfl, by simp, eq_of_beq hwf⟩
  | validIgnored t p r =>
    simp only [Position.toInstr, Instr.wellFormed, Bool.and_eq_true, legalPayload_iff, beq_iff_eq] at hwf
    exact ⟨t, p, r, rfl, hwf.1.1, hwf.1.2⟩

/-- Settles O48: the flipped bytes are a frame of the same length, and the residue of the check, 0 before, is not 0 any more. -/
theorem singleBitErrorBecomesBadCrc : Obligations.SingleBitErrorBecomesBadCrc := by
  intro c q rest j b hwf hvalid hj hlen
  obtain ⟨t, p, r, hframe, hp, hcrc⟩ := encodePosition_of_valid hwf hvalid
  obtain ⟨i, rfl⟩ := Nat.exists_eq_add_of_le' hj
  rw [hframe] at hlen ⊢
  have hi : i < (t :: p ++ [r]).length := by
    simp only [frameBytes, List.length_cons] at hlen
    simp only [List.cons_append, List.length_cons]
    omega
  obtain ⟨t', p', r', hbody, hp'⟩ : ∃ t' p' r', flipBit (t :: p ++ [r]) i b = t' :: p' ++ [r'] ∧ p'.length = p.length :=
    exists_frame_body (by simp [flipBit])
  have hresidue := crcDetectsEverySingleBitError _ i b hi
  rw [(crc8_append_singleton_eq_zero_iff (t :: p) r).mpr hcrc, hbody, Ne, crc8_append_singleton_eq_zero_iff] at hresidue
  have hflip : flipBit (frameBytes c t p r) (i + 2) b = frameBytes c t' p' r' := by
    rw [flipBit_frameBytes, hbody, ← hp']
    rfl
  refine ⟨.badCrc t' p' r', ?_, rfl, rfl⟩
  rw [hflip, decodePosition_frameBytes rest (by omega), decodeCandidate, if_pos hresidue]

end Sys2Proof.Machine

/-! Proofs of the frame decoder family, SCAN: the pure scan by the positions it passes, the registers as folds of its events, the bounds and
the residue of a scan, and the independence of chunk sizes. -/

namespace Sys2Proof.Machine

/-! ### The pure scan, position by position -/

/-- An event with its offset counted from `d` bytes before (spec/41_frame_decoder.md R110). -/
def Event.shift (d : Nat) (e : Event) : Event := { e with offset := d + e.offset }

@[simp] theorem Event.shift_position (d : Nat) (e : Event) : (e.shift d).position = e.position := rfl
@[simp] theorem Event.shift_values (d : Nat) (e : Event) : (e.shift d).values = e.values := rfl

theorem Event.map_shift_shift (d k : Nat) (es : List Event) :
    (es.map (Event.shift k)).map (Event.shift d) = es.map (Event.shift (d + k)) := by
  simp [Event.shift, Nat.add_assoc]

/-- With rounds for every byte, neither the number of rounds nor the offset of the first byte decides what a scan finds. -/
theorem scanFrom_shift {c : Params} {n m pos : Nat} {view : List Byte} (d : Nat) (hn : view.length ≤ n)
    (hm : view.length ≤ m) :
    scanFrom c n (d + pos) view =
      (d + (scanFrom c m pos view).1, (scanFrom c m pos view).2.map (Event.shift d)) := by
  induction n generalizing m pos view with
  | zero =>
    have hend : decodePosition c view = none := decodePosition_of_length_lt (by omega)
    rw [scanFrom_of_end hend, scanFrom_of_end hend]
    rfl
  | succ n ih =>
    cases hq : decodePosition c view with
    | none =>
      rw [scanFrom_of_end hq, scanFrom_of_end hq]
      rfl
    | some q =>
      obtain ⟨hlen, hadvance⟩ := decodePosition_advance hq
      obtain ⟨m, rfl⟩ : ∃ m', m = m' + 1 := Nat.exists_eq_add_one.mpr (by omega)
      cases hk : q.advance with
      | none =>
        rw [scanFrom_of_stop hq hk, scanFrom_of_stop hq hk]
        rfl
      | some k =>
        obtain ⟨hk1, -⟩ := hadvance k hk
        have hrest : (view.drop k).length = view.length - k := List.length_drop
        rw [scanFrom_of_advance hq hk, scanFrom_of_advance hq hk, Nat.add_assoc, ih (m := m) (by omega) (by omega)]
        rfl

/-- A scan cannot go on at these bytes: they decode to no position, or to one that stops the scan (spec/41_frame_decoder.md R96,
R100). -/
def Awaits (c : Params) (b : List Byte) : Prop := ∀ q, decodePosition c b = some q → q.advance = none

theorem awaits_of_length_lt {c : Params} {b : List Byte} (h : b.length < 4) : Awaits c b := by
  intro q hq
  rw [decodePosition_of_length_lt h] at hq
  cases hq

theorem eq_wait_of_advance_eq_none {q : Position} (h : q.advance = none) : ∃ l, q = .wait l := by
  cases q <;> cases h
  exact ⟨_, rfl⟩

/-- A scan that cannot go on passes nothing, and takes no STEP or the STEP of a WAIT. -/
theorem scan_of_awaits {c : Params} {b : List Byte} (h : Awaits c b) :
    scan c b = (0, []) ∨ ∃ l, scan c b = (0, [⟨0, .wait l, none⟩]) ∧ 4 ≤ b.length := by
  cases hq : decodePosition c b with
  | none => exact .inl (scanFrom_of_end hq)
  | some q =>
    have hlen := (decodePosition_advance hq).1
    obtain ⟨l, rfl⟩ := eq_wait_of_advance_eq_none (h q hq)
    obtain ⟨n, hn⟩ : ∃ n, b.length = n + 1 := Nat.exists_eq_add_one.mpr (by omega)
    refine .inr ⟨l, ?_, hlen⟩
    rw [scan, hn, scanFrom_of_stop hq rfl]

theorem Awaits.scan_passed {c : Params} {b : List Byte} (h : Awaits c b) : (scan c b).1 = 0 := by
  obtain h | ⟨l, h, -⟩ := scan_of_awaits h <;> rw [h]

/-- A position that goes on is the first event of a scan, and the scan of the bytes after it follows. -/
theorem scan_of_advance {c : Params} {b : List Byte} {q : Position} {k : Nat} (hq : decodePosition c b = some q)
    (hk : q.advance = some k) :
    scan c b =
      (k + (scan c (b.drop k)).1, ⟨0, q, positionValues q⟩ :: (scan c (b.drop k)).2.map (Event.shift k)) := by
  obtain ⟨hlen, hadvance⟩ := decodePosition_advance hq
  have hk1 := (hadvance k hk).1
  obtain ⟨n, hn⟩ : ∃ n, b.length = n + 1 := Nat.exists_eq_add_one.mpr (by omega)
  have hrest : (b.drop k).length ≤ n := by
    rw [List.length_drop]
    omega
  have hshift := scanFrom_shift (c := c) (pos := 0) k hrest (Nat.le_refl _)
  rw [Nat.add_zero] at hshift
  rw [scan, hn, scanFrom_of_advance hq hk, Nat.zero_add, hshift]
  rfl

/-- What holds where a scan cannot go on, and of bytes whenever it holds after their first position, holds of all bytes. -/
theorem scan_induction {c : Params} {P : List Byte → Prop} (hstop : ∀ b, Awaits c b → P b)
    (hadvance : ∀ b q k, decodePosition c b = some q → q.advance = some k → P (b.drop k) → P b) (b : List Byte) : P b := by
  induction hn : b.length using Nat.strong_induction_on generalizing b with
  | h n ih =>
    by_cases h : Awaits c b
    · exact hstop b h
    · simp only [Awaits, not_forall, ← Ne.eq_def, Option.ne_none_iff_exists'] at h
      obtain ⟨q, hq, k, hk⟩ := h
      obtain ⟨hlen, hle⟩ := decodePosition_advance hq
      have hk1 := (hle k hk).1
      refine hadvance b q k hq hk (ih _ ?_ _ rfl)
      rw [List.length_drop]
      omega

/-- A scan passes no more than there is (spec/41_frame_decoder.md R112). -/
theorem scan_passed_le (c : Params) (b : List Byte) : (scan c b).1 ≤ b.length := by
  have hbound := (scanFrom_bounds c b.length 0 b).2
  rwa [Nat.zero_add] at hbound

/-- A scan takes at most `LEN − 3` STEPs (spec/41_frame_decoder.md R112). -/
theorem scan_length_le (c : Params) (b : List Byte) : (scan c b).2.length ≤ b.length - 3 := by
  induction b using scan_induction (c := c) with
  | hstop b h =>
    obtain h | ⟨l, h, hlen⟩ := scan_of_awaits h <;> rw [h]
    · exact Nat.zero_le _
    · exact Nat.le_sub_of_add_le hlen
  | hadvance b q k hq hk ih =>
    obtain ⟨hlen, hle⟩ := decodePosition_advance hq
    have hk1 := (hle k hk).1
    rw [List.length_drop] at ih
    rw [scan_of_advance hq hk, List.length_cons, List.length_map]
    omega

/-- An event carries the values that its position yields (spec/41_frame_decoder.md R108). -/
theorem scan_event_values (c : Params) (b : List Byte) : ∀ e ∈ (scan c b).2, e.values = positionValues e.position := by
  induction b using scan_induction (c := c) with
  | hstop b h =>
    obtain h | ⟨l, h, -⟩ := scan_of_awaits h <;> rw [h]
    · nofun
    · intro e he
      cases List.mem_singleton.mp he
      rfl
  | hadvance b q k hq hk ih =>
    rw [scan_of_advance hq hk]
    intro e he
    obtain rfl | he := List.mem_cons.mp he
    · rfl
    · obtain ⟨e', he', rfl⟩ := List.mem_map.mp he
      exact ih e' he'

/-- What a scan leaves cannot go on (spec/41_frame_decoder.md R113). -/
theorem awaits_drop_scan (c : Params) (b : List Byte) : Awaits c (b.drop (scan c b).1) := by
  induction b using scan_induction (c := c) with
  | hstop b h =>
    rwa [h.scan_passed, List.drop_zero]
  | hadvance b q k hq hk ih =>
    rwa [scan_of_advance hq hk, ← List.drop_drop]

/-! ### Folds of events -/

theorem countEvents_cons (keep : Nat → Bool) (e : Event) (es : List Event) :
    countEvents keep (e :: es) = countEvents keep es + if keep e.position.causeCode then 1 else 0 := List.countP_cons

theorem countEvents_map_shift (keep : Nat → Bool) (d : Nat) (es : List Event) :
    countEvents keep (es.map (Event.shift d)) = countEvents keep es := List.countP_map

theorem countEvents_le_length (keep : Nat → Bool) (es : List Event) : countEvents keep es ≤ es.length := List.countP_le_length

theorem lastValues_nil : lastValues [] = none := rfl

/-- A later event's values come before an earlier one's (spec/41_frame_decoder.md R109). -/
theorem lastValues_cons (e : Event) (es : List Event) : lastValues (e :: es) = (lastValues es).or e.values := by
  have hfold (v : Option Channels) : es.foldl (fun v e => e.values.or v) v = (lastValues es).or v := by
    induction es generalizing v with
    | nil => rfl
    | cons e es ih => rw [lastValues, List.foldl_cons, List.foldl_cons, ih, ih, Option.or_none, Option.or_assoc]
  rw [lastValues, List.foldl_cons, hfold, Option.or_none]

/-- The records of a scan are the folds of its events, on what the outcome held before (spec/41_frame_decoder.md R108). -/
theorem State.recordEvents_eq (s : State) (es : List Event) (hes : ∀ e ∈ es, e.values = positionValues e.position) :
    s.recordEvents es =
      { s with
        nSeen := s.nSeen + BitVec.ofNat 13 (countEvents (fun c => c == 4 || c == 5 || c == 6) es)
        nValid := s.nValid + BitVec.ofNat 13 (countEvents (fun c => c == 5 || c == 6) es)
        nAddrRej := s.nAddrRej + BitVec.ofNat 13 (countEvents (fun c => c == 1) es)
        nBadCrc := s.nBadCrc + BitVec.ofNat 13 (countEvents (fun c => c == 4) es)
        nRc := s.nRc + BitVec.ofNat 13 (countEvents (fun c => c == 5) es)
        fresh := s.fresh || (lastValues es).isSome
        ch := (lastValues es).getD s.ch } := by
  induction es generalizing s with
  | nil => simp [countEvents, lastValues_nil]
  | cons e es ih =>
    obtain ⟨he, hes⟩ := List.forall_mem_cons.mp hes
    rw [State.recordEvents_cons, ih _ hes]
    simp only [countEvents_cons, lastValues_cons, he]
    cases e.position <;>
      simp [recordPosition, Position.causeCode, positionValues, BitVec.ofNat_add, BitVec.add_assoc, BitVec.add_comm]

/-- Settles O38: SCAN records the events of the pure scan on the cleared outcome. -/
theorem scanIsThePureScan : Obligations.ScanIsThePureScan := by
  intro s hc hcap
  refine ⟨(lastValues (scan s.params s.buf).2).getD (drawChannels s.drawn), s.drawn + 1, fun x hx => by rw [hx]; rfl, ?_⟩
  rw [execScan_eq_scan hc hcap, State.recordEvents_eq _ _ (scan_event_values s.params s.buf)]
  simp [State.endedAfter, hc]

/-! ### SCAN as single steps -/

/-- The loop of SCAN from a cursor to the end of the scan, one machine step a round. -/
theorem runSteps_of_scanLoop {n : Nat} {s t : State} {pos : Count} (hc : s.cursor = some pos) (ht : t.cursor = none)
    (h : scanLoop n s = .next t) : ∃ m ≤ n, runSteps m s = .next t := by
  induction n generalizing s pos with
  | zero =>
    cases h
    cases hc.symm.trans ht
  | succ n ih =>
    have hlast (hstep : step s = .next t) : ∃ m ≤ n + 1, runSteps m s = .next t :=
      ⟨1, Nat.le_add_left 1 n, by simp only [runSteps, hstep]⟩
    cases hq : s.positionAt pos with
    | none =>
      rw [scanLoop_of_end n hc hq] at h
      exact hlast (by rw [step_at_cursor hc, hq, h])
    | some q =>
      cases hk : q.advance with
      | none =>
        rw [scanLoop_of_stop n hc hq hk] at h
        exact hlast (by simp only [step_at_cursor hc, hq, stepPosition_of_stop hk, h])
      | some k =>
        rw [scanLoop_of_advance n hc hq hk] at h
        obtain ⟨m, hm, hrun⟩ := ih rfl h
        refine ⟨m + 1, Nat.succ_le_succ hm, ?_⟩
        simp only [runSteps, step_at_cursor hc, hq, stepPosition_of_advance hc hk, hrun]

/-- Settles O39: each round of the loop is one machine step. -/
theorem scanIsItsStepsOneByOne : Obligations.ScanIsItsStepsOneByOne := by
  intro s hc hcap
  have hscan := execScan_eq_scan hc hcap
  obtain ⟨n, hn, hrun⟩ := runSteps_of_scanLoop (pos := 0) rfl rfl ((execScan_of_rest hc).symm.trans hscan)
  exact ⟨n, _, hn, rfl, hscan, hrun⟩

/-! ### The laws of the outcome -/

/-- A candidate seen is a valid one or a bad one (spec/41_frame_decoder.md R101 to R103). -/
theorem countEvents_seen (es : List Event) :
    countEvents (fun c => c == 4 || c == 5 || c == 6) es =
      countEvents (fun c => c == 5 || c == 6) es + countEvents (fun c => c == 4) es := by
  induction es with
  | nil => rfl
  | cons e es ih =>
    simp only [countEvents_cons, ih]
    cases e.position <;> simp [Position.causeCode] <;> omega

/-- A channel-data frame is a valid one (spec/41_frame_decoder.md R104). -/
theorem countEvents_rc_le_valid (es : List Event) :
    countEvents (fun c => c == 5) es ≤ countEvents (fun c => c == 5 || c == 6) es :=
  List.countP_mono_left fun e _ he => by simp_all

/-- There are values exactly when there is a channel-data frame (spec/41_frame_decoder.md R111). -/
theorem lastValues_isSome_iff {es : List Event} (hes : ∀ e ∈ es, e.values = positionValues e.position) :
    (lastValues es).isSome = true ↔ 1 ≤ countEvents (fun c => c == 5) es := by
  induction es with
  | nil => simp [lastValues_nil, countEvents]
  | cons e es ih =>
    obtain ⟨he, hes⟩ := List.forall_mem_cons.mp hes
    rw [lastValues_cons, countEvents_cons, he, Option.isSome_or, Bool.or_eq_true, ih hes]
    cases e.position <;> simp [positionValues, Position.causeCode]

/-- The bytes that the counted events passed are among those the scan passed (spec/41_frame_decoder.md R111). -/
theorem scan_counts_le_passed (c : Params) (b : List Byte) :
    countEvents (fun c => c == 1) (scan c b).2 + countEvents (fun c => c == 4) (scan c b).2 +
        4 * (countEvents (fun c => c == 5 || c == 6) (scan c b).2 - countEvents (fun c => c == 5) (scan c b).2) +
        26 * countEvents (fun c => c == 5) (scan c b).2 ≤ (scan c b).1 := by
  induction b using scan_induction (c := c) with
  | hstop b h =>
    obtain h | ⟨l, h, -⟩ := scan_of_awaits h <;> rw [h] <;> exact Nat.le_refl 0
  | hadvance b q k hq hk ih =>
    have hrc := countEvents_rc_le_valid (scan c (b.drop k)).2
    rw [scan_of_advance hq hk]
    simp only [countEvents_cons, countEvents_map_shift]
    generalize scan c (b.drop k) = rest at ih hrc ⊢
    cases q <;> cases hk <;> simp [Position.causeCode] <;> omega

/-- A count up to the capacity fits its register (spec/00_scope.md R11). -/
theorem toNat_count_of_le_cap {n : Nat} (h : n ≤ Config.cap) : (BitVec.ofNat 13 n).toNat = n := by
  simp only [Config.cap] at h
  rw [BitVec.toNat_ofNat]
  omega

/-- No count of a scan's events wraps (spec/41_frame_decoder.md R112). -/
theorem toNat_countEvents_scan {c : Params} {b : List Byte} (keep : Nat → Bool) (hcap : b.length ≤ Config.cap) :
    (BitVec.ofNat 13 (countEvents keep (scan c b).2)).toNat = countEvents keep (scan c b).2 := by
  have hlen := scan_length_le c b
  have hcount := countEvents_le_length keep (scan c b).2
  exact toNat_count_of_le_cap (by omega)

theorem toNat_passed_scan {c : Params} {b : List Byte} (hcap : b.length ≤ Config.cap) :
    (BitVec.ofNat 13 (scan c b).1).toNat = (scan c b).1 :=
  toNat_count_of_le_cap ((scan_passed_le c b).trans hcap)

/-- What a SCAN leaves beside the outcome: the buffer without the bytes passed, and CONSUMED their number
(spec/41_frame_decoder.md R106). -/
theorem execScan_next_frame {s t : State} (hcap : s.buf.length ≤ Config.cap) (h : exec .scan s = .next t) :
    t.cursor = none ∧ t.params = s.params ∧ t.buf = s.buf.drop (scan s.params s.buf).1 ∧
      t.consumed.toNat = (scan s.params s.buf).1 := by
  have hc := (execScan_next h).1
  obtain ⟨v, d, -, hscan⟩ := scanIsThePureScan s hc hcap
  cases hscan.symm.trans h
  exact ⟨hc, rfl, rfl, toNat_passed_scan hcap⟩

/-- Settles O40: the laws of the folds of the pure scan's events. -/
theorem scanOutcomeLaws : Obligations.ScanOutcomeLaws := by
  intro s t hcap h
  obtain ⟨v, d, -, hscan⟩ := scanIsThePureScan s (execScan_next h).1 hcap
  cases hscan.symm.trans h
  have hrc := countEvents_rc_le_valid (scan s.params s.buf).2
  have hpassed := scan_counts_le_passed s.params s.buf
  simp only [toNat_countEvents_scan _ hcap, toNat_passed_scan hcap]
  refine ⟨countEvents_seen _, hrc, lastValues_isSome_iff (scan_event_values s.params s.buf), fun k => ?_, by omega, hpassed⟩
  simp [State.readChannel]

/-- Settles O41: the bounds of the pure scan, and the laws of the outcome for the frames. -/
theorem scanEndsWithinBounds : Obligations.ScanEndsWithinBounds := by
  intro s hc hcap
  obtain ⟨v, d, -, hscan⟩ := scanIsThePureScan s hc hcap
  have hsteps := scan_length_le s.params s.buf
  have hle := scan_passed_le s.params s.buf
  have hcount (keep : Nat → Bool) : countEvents keep (scan s.params s.buf).2 ≤ 4093 := by
    have hcount := countEvents_le_length keep (scan s.params s.buf).2
    simp only [Config.cap] at hcap
    omega
  have hrc := countEvents_rc_le_valid (scan s.params s.buf).2
  have hpassed := scan_counts_le_passed s.params s.buf
  refine ⟨_, hscan, hc, ?_⟩
  simp only [toNat_countEvents_scan _ hcap, toNat_passed_scan hcap]
  exact ⟨hle, hsteps, hcount _, hcount _, hcount _, by omega, by omega⟩

/-! ### The residue -/

/-- Bytes that cannot go on are fewer than 4, or the start of a declared frame not yet complete (spec/41_frame_decoder.md R113). -/
theorem Awaits.residue {c : Params} {b : List Byte} (h : Awaits c b) :
    b.length ≤ 3 ∨ (4 ≤ b.length ∧ b.length ≤ 63 ∧ b[0]? = some c.addrFc ∧
      ∃ l : Byte, b[1]? = some l ∧ 2 ≤ l.toNat ∧ l.toNat ≤ 62 ∧ b.length < l.toNat + 2) := by
  match b with
  | a :: l :: t :: x :: more =>
    obtain ⟨q, hq⟩ := Option.isSome_iff_exists.mp
      ((decodedPositionIsWellFormedPrefix c (a :: l :: t :: x :: more)).1.mpr (by simp))
    obtain ⟨l', rfl⟩ := eq_wait_of_advance_eq_none (h q hq)
    obtain ⟨-, hother⟩ | ⟨-, -, hother⟩ | ⟨rfl, hlen, hshort, -⟩ | ⟨-, -, -, hother⟩ := decodePosition_cases hq
    · cases hother
    · cases hother
    · simp only [List.length_cons]
      exact .inr ⟨by omega, by omega, rfl, l, rfl, hlen.1, hlen.2, by omega⟩
    · obtain ⟨-, hd⟩ | ⟨v, -, -, -, hd⟩ | ⟨-, -, hd⟩ := decodeCandidate_cases c t ((x :: more).take (l.toNat - 2))
        ((x :: more).getD (l.toNat - 2) 0) <;> cases hother.trans hd
  | [] | [_] | [_, _] | [_, _, _] => exact .inl (by simp)

/-- SCAN of bytes that cannot go on changes no byte, consumes nothing, counts nothing, and leaves no fresh channels
(spec/41_frame_decoder.md R113). -/
theorem execScan_of_awaits {s : State} (hc : s.cursor = none) (hcap : s.buf.length ≤ Config.cap)
    (h : Awaits s.params s.buf) :
    ∃ (v : Channels) (d : Nat), exec .scan s = .next
      { s with
        nSeen := 0, nValid := 0, nAddrRej := 0, nBadCrc := 0, nRc := 0, fresh := false
        ch := v, drawn := d, consumed := 0, status := .ok } := by
  obtain ⟨v, d, -, hscan⟩ := scanIsThePureScan s hc hcap
  refine ⟨v, d, hscan.trans ?_⟩
  obtain hs | ⟨l, hs, -⟩ := scan_of_awaits h <;> rw [hs] <;> rfl

/-- A SCAN of what a SCAN left cannot go on (spec/41_frame_decoder.md R113). -/
theorem execScan_next_awaits {s t : State} (hcap : s.buf.length ≤ Config.cap) (h : exec .scan s = .next t) :
    Awaits t.params t.buf := by
  obtain ⟨-, hparams, hbuf, -⟩ := execScan_next_frame hcap h
  rw [hparams, hbuf]
  exact awaits_drop_scan s.params s.buf

/-- Settles O42: what a scan leaves cannot go on. -/
theorem scanResidueAwaitsOneFrame : Obligations.ScanResidueAwaitsOneFrame := by
  intro s t hcap h
  obtain ⟨hc, -, hbuf, -⟩ := execScan_next_frame hcap h
  have hawaits := execScan_next_awaits hcap h
  have htcap : t.buf.length ≤ Config.cap := by
    rw [hbuf, List.length_drop]
    exact (Nat.sub_le _ _).trans hcap
  obtain ⟨v, d, hagain⟩ := execScan_of_awaits hc htcap hawaits
  exact ⟨hawaits.residue, _, hagain, rfl, rfl, rfl, rfl, rfl, rfl, rfl, rfl, fun _ => rfl⟩

/-- Settles O43: fewer than 4 bytes cannot go on. -/
theorem scanLeavesFewerThanFourBytes : Obligations.ScanLeavesFewerThanFourBytes := fun s hc hlen =>
  execScan_of_awaits hc (by simp only [Config.cap]; omega) (awaits_of_length_lt hlen)

/-! ### Two channel-data frames -/

/-- The scan of two channel-data frames back to back has them as its two events. -/
theorem scan_rcFrame_rcFrame {c : Params} {p q : Payload} {r r' : Byte} (hp : crc8 (c.typeRc :: p.toList) = r)
    (hq : crc8 (c.typeRc :: q.toList) = r') :
    scan c (frameBytes c c.typeRc p.toList r ++ frameBytes c c.typeRc q.toList r') =
      (52, [⟨0, .rcChannels p r, some (unpackChannels p)⟩, ⟨26, .rcChannels q r', some (unpackChannels q)⟩]) := by
  have hlen : (frameBytes c c.typeRc p.toList r ++ frameBytes c c.typeRc q.toList r').length = 50 + 1 + 1 := by
    simp [frameBytes]
  have hend : decodePosition c [] = none := rfl
  have hsecond := scanFrom_rcFrame 50 26 [] hq
  rw [List.append_nil, scanFrom_of_end hend] at hsecond
  rw [scan, hlen, scanFrom_rcFrame (50 + 1) 0 _ hp, hsecond]

/-- Settles O44: the folds of the two events of the scan. -/
theorem lastChannelFrameWins : Obligations.LastChannelFrameWins := by
  intro s p q hc hbuf
  have hlen : s.buf.length = 52 := by simp [hbuf, frameBytes]
  obtain ⟨v, d, hv, hscan⟩ := scanIsThePureScan s hc (by rw [hlen]; decide)
  have hevents : scan s.params s.buf = _ := hbuf ▸ scan_rcFrame_rcFrame rfl rfl
  rw [hevents] at hv hscan
  cases hv _ rfl
  refine ⟨d, hscan.trans ?_⟩
  rw [List.drop_of_length_le hlen.le]
  rfl

/-! ### Chunks -/

/-- A position that goes on is decided by bytes already there (spec/41_frame_decoder.md R110). -/
theorem decodePosition_append {c : Params} {b : List Byte} {q : Position} {k : Nat} (more : List Byte)
    (hq : decodePosition c b = some q) (hk : q.advance = some k) : decodePosition c (b ++ more) = some q := by
  have hlen := (decodePosition_advance hq).1
  obtain ⟨hwf, rest, rfl⟩ := decodePosition_wellFormed_prefix hq
  rw [List.append_assoc]
  refine positionBytesDecodeToPosition c q (rest ++ more) hwf ?_ fun l hl => ?_
  · rw [← List.append_assoc, List.length_append]
    omega
  · subst hl
    cases hk

theorem decidedEvents_of_awaits {c : Params} {b : List Byte} (base : Nat) (h : Awaits c b) : decidedEvents base c b = [] := by
  obtain hs | ⟨l, hs, -⟩ := scan_of_awaits h <;> rw [decidedEvents, hs] <;> rfl

/-- A position that goes on is decided, and what the bytes after it decide follows. -/
theorem decidedEvents_of_advance {c : Params} {b : List Byte} {q : Position} {k : Nat} (base : Nat)
    (hq : decodePosition c b = some q) (hk : q.advance = some k) :
    decidedEvents base c b = ⟨base, q, positionValues q⟩ :: decidedEvents (base + k) c (b.drop k) := by
  have hdecided : (q.causeCode != 3) = true := by
    cases q <;> cases hk <;> rfl
  rw [decidedEvents, scan_of_advance hq hk, List.filter_cons, if_pos hdecided, List.map_cons, List.filter_map]
  exact congrArg _ (Event.map_shift_shift base k _)

/-- More bytes after a scan's bytes: a scan of all passes what the first scan passed, and then what a scan of its residue and the
new bytes passes, and decides the events of both (spec/41_frame_decoder.md R110). -/
theorem scan_append (c : Params) (base : Nat) (b more : List Byte) :
    (scan c (b ++ more)).1 = (scan c b).1 + (scan c (b.drop (scan c b).1 ++ more)).1 ∧
    decidedEvents base c (b ++ more) =
      decidedEvents base c b ++ decidedEvents (base + (scan c b).1) c (b.drop (scan c b).1 ++ more) := by
  induction b using scan_induction (c := c) generalizing base with
  | hstop b h =>
    rw [h.scan_passed, decidedEvents_of_awaits base h]
    exact ⟨(Nat.zero_add _).symm, rfl⟩
  | hadvance b q k hq hk ih =>
    obtain ⟨hpassed, hdecided⟩ := ih (base + k)
    have hle := ((decodePosition_advance hq).2 k hk).2
    have hall := decodePosition_append more hq hk
    rw [decidedEvents_of_advance base hall hk, decidedEvents_of_advance base hq hk, scan_of_advance hall hk,
      scan_of_advance hq hk, List.drop_append_of_le_length hle, ← List.drop_drop, hpassed, hdecided]
    exact ⟨(Nat.add_assoc _ _ _).symm, by rw [List.cons_append, Nat.add_assoc]⟩

/-- What a first receive event of a run does when the run gives a result. -/
theorem receiveAll_cons {base : Nat} {chunk : List Byte} {chunks : List (List Byte)} {s u : State} {es : List Event}
    (h : receiveAll base (chunk :: chunks) s = some (es, u)) :
    ∃ t v es', exec (.feed chunk) s = .next t ∧ t.dropped = 0 ∧ exec .scan t = .next v ∧
      receiveAll (base + v.consumed.toNat) chunks v = some (es', u) ∧
      es = decidedEvents base t.params t.buf ++ es' := by
  rw [receiveAll] at h
  split at h
  case h_1 t hfeed =>
    split_ifs at h with hdropped
    split at h
    case h_1 v hscan =>
      obtain ⟨⟨es', u'⟩, hrest, heq⟩ := Option.map_eq_some_iff.mp h
      cases heq
      exact ⟨t, v, es', hfeed, hdropped, hscan, hrest, rfl⟩
    all_goals cases h
  all_goals cases h

/-- A FEED that drops nothing appends the chunk, and all fits (spec/40_reassembly_buffer.md R71). -/
theorem execFeed_next_of_dropped_eq_zero {s t : State} {chunk : List Byte} (h : exec (.feed chunk) s = .next t)
    (hdropped : t.dropped = 0) :
    s.cursor = none ∧ t = { s with buf := s.buf ++ chunk, dropped := 0, status := .ok } ∧
      (s.buf ++ chunk).length ≤ Config.cap := by
  obtain ⟨hc, rfl⟩ := execFeed_next h
  have hzero : overflow (s.buf.length + chunk.length) = 0 := hdropped
  refine ⟨hc, by rw [hzero, List.drop_zero], ?_⟩
  simp only [overflow] at hzero
  rw [List.length_append]
  omega

/-- A run of receive events on bytes that cannot go on decides what one scan of them and all the chunks decides, and leaves what it
leaves (spec/41_frame_decoder.md R110). -/
theorem receiveAll_eq {base : Nat} {chunks : List (List Byte)} {s u : State} {es : List Event}
    (hs : Awaits s.params s.buf) (h : receiveAll base chunks s = some (es, u)) :
    es = decidedEvents base s.params (s.buf ++ chunks.flatten) ∧
    u.buf = (s.buf ++ chunks.flatten).drop (scan s.params (s.buf ++ chunks.flatten)).1 := by
  induction chunks generalizing base s es with
  | nil =>
    cases h
    rw [List.flatten_nil, List.append_nil, decidedEvents_of_awaits base hs]
    exact ⟨rfl, by rw [hs.scan_passed, List.drop_zero]⟩
  | cons chunk chunks ih =>
    obtain ⟨t, v, es', hfeed, hdropped, hscan, hrest, rfl⟩ := receiveAll_cons h
    obtain ⟨hc, rfl, hcap⟩ := execFeed_next_of_dropped_eq_zero hfeed hdropped
    obtain ⟨-, hparams, hrestbuf, hconsumed⟩ := execScan_next_frame hcap hscan
    obtain ⟨hes, hbuf⟩ := ih (execScan_next_awaits hcap hscan) hrest
    rw [hparams, hrestbuf, hconsumed] at hes
    rw [hparams, hrestbuf] at hbuf
    obtain ⟨hpassed, hdecided⟩ := scan_append s.params base (s.buf ++ chunk) chunks.flatten
    have hle := scan_passed_le s.params (s.buf ++ chunk)
    rw [List.flatten_cons, ← List.append_assoc, hdecided, hpassed, ← List.drop_drop, List.drop_append_of_le_length hle]
    exact ⟨congrArg _ hes, hbuf⟩

/-- Settles O49: the empty buffer cannot go on. -/
theorem scanIsChunkSizeIndependent : Obligations.ScanIsChunkSizeIndependent := by
  intro s u chunks es _ hbuf h
  have hrun := receiveAll_eq (hbuf ▸ awaits_of_length_lt (by decide)) h
  rwa [hbuf, List.nil_append] at hrun

end Sys2Proof.Machine

/-! Proofs of the channel unpacker family (spec/42_channel_unpacker.md): the shape of the conversion, the fields of a payload, and
the UNPACK command. -/

namespace Sys2Proof.Machine

/-! ### The conversion -/

/-- The stored value by the distance of the tick from the centre, which is what truncation toward zero divides
(spec/42_channel_unpacker.md R123, R124). -/
theorem ticksToUs_eq (t : Tick) :
    (ticksToUs t).toNat =
      if 992 ≤ t.toNat then 1500 + (t.toNat - 992) * 5 / 8 else 1500 - (992 - t.toNat) * 5 / 8 := by
  have ht : t.toNat < 2048 := t.isLt
  have hstored := ticksToUs_toNat t
  simp only [ticksToMicros, Config.tickCenter, Config.scaleNum, Config.scaleDen, Config.usCenter, Int.tdiv_eq_ediv,
    show Int.sign 8 = 1 from rfl] at hstored
  split at hstored <;> split <;> omega

/-- Every value of the range is taken, by the tick whose distance from the centre is 8/5 of the value's from 1500, rounded up
(spec/42_channel_unpacker.md R126). -/
theorem exists_ticksToUs_toNat_eq {v : Nat} (hlo : 880 ≤ v) (hhi : v ≤ 2159) : ∃ t : Tick, (ticksToUs t).toNat = v := by
  rcases Nat.le_total 1500 v with hv | hv
  · refine ⟨BitVec.ofNat 11 (992 + ((v - 1500) * 8 + 4) / 5), ?_⟩
    rw [ticksToUs_eq, BitVec.toNat_ofNat, Nat.mod_eq_of_lt (by omega), if_pos (by omega)]
    omega
  · refine ⟨BitVec.ofNat 11 (992 - ((1500 - v) * 8 + 4) / 5), ?_⟩
    rw [ticksToUs_eq, BitVec.toNat_ofNat, Nat.mod_eq_of_lt (by omega)]
    split <;> omega

/-- The conversion does not decrease (spec/42_channel_unpacker.md R126). -/
theorem ticksToUs_mono {t u : Tick} (h : t.toNat ≤ u.toNat) : (ticksToUs t).toNat ≤ (ticksToUs u).toNat := by
  rw [ticksToUs_eq, ticksToUs_eq]
  split <;> split <;> omega

/-- Truncation toward zero on both sides gives the centre three ticks (spec/42_channel_unpacker.md R126). -/
theorem ticksToUs_eq_center_iff (t : Tick) : (ticksToUs t).toNat = 1500 ↔ t = 991 ∨ t = 992 ∨ t = 993 := by
  have hnat : (t = 991 ∨ t = 992 ∨ t = 993) ↔ (t.toNat = 991 ∨ t.toNat = 992 ∨ t.toNat = 993) := by
    simp only [← BitVec.toNat_inj]
    rfl
  rw [hnat, ticksToUs_eq]
  split <;> omega

/-- Settles O27: the conversion on either side of the centre is a quotient of the distance, and each value has a tick. -/
theorem tickConversionRangeAndShape : Obligations.TickConversionRangeAndShape := by
  refine ⟨fun _ _ => ticksToUs_mono, fun v => ⟨fun ⟨hlo, hhi⟩ => exists_ticksToUs_toNat_eq hlo hhi, ?_⟩,
    ticksToUs_eq 0, ticksToUs_eq 2047, ticksToUs_eq_center_iff⟩
  rintro ⟨t, rfl⟩
  have hstored := ticksToUs_toNat t
  have hrange := ticksToMicros_range t
  omega

/-- Truncation is floor where nothing is cut or the numerator is not negative, and 1 above it elsewhere
(spec/42_channel_unpacker.md R124). -/
theorem tdiv_eight_eq_fdiv (m : Int) : Int.tdiv m 8 = Int.fdiv m 8 + (if 0 ≤ m ∨ 8 ∣ m then 0 else 1) := by
  rw [Int.tdiv_eq_ediv, Int.fdiv_eq_ediv_of_nonneg m (by decide)]
  rfl

/-- Settles O28: 12 bits hold the truncated quotient, and 8 divides the numerator just where it divides the distance. -/
theorem tickConversionTruncatesTowardZero : Obligations.TickConversionTruncatesTowardZero := by
  intro t
  have hfloor : (0 ≤ ((t.toNat : Int) - 992) * 5 ∨ 8 ∣ ((t.toNat : Int) - 992) * 5) ↔
      (992 ≤ t.toNat ∨ (992 - t.toNat) % 8 = 0) := by omega
  have hstored : ((ticksToUs t).toNat : Int) = Int.tdiv (((t.toNat : Int) - 992) * 5) 8 + 1500 := ticksToUs_toNat t
  refine ⟨hstored, ?_⟩
  rw [hstored, tdiv_eight_eq_fdiv, if_congr hfloor rfl rfl, Int.add_right_comm]

/-! ### The fields of a payload -/

/-- Bit `n` of a byte sequence as an integer is bit `n mod 8` of its byte `⌊n / 8⌋` (spec/20_memory.md R37). -/
theorem littleEndian_testBit (s : List Byte) (n : Nat) :
    (littleEndian s).testBit n = (s[n / 8]?.getD 0).getLsbD (n % 8) := by
  induction s generalizing n with
  | nil => simp [littleEndian]
  | cons b s ih =>
    rw [littleEndian, Nat.add_comm, show 256 = 2 ^ 8 from rfl, Nat.testBit_two_pow_mul_add _ b.isLt]
    split
    next hn => simp [Nat.div_eq_of_lt hn, Nat.mod_eq_of_lt hn, BitVec.testBit_toNat]
    next hn =>
      obtain ⟨m, rfl⟩ := Nat.exists_eq_add_of_le (Nat.le_of_not_lt hn)
      rw [Nat.add_sub_cancel_left, ih, Nat.add_mod_left, Nat.add_div_left m (by decide), List.getElem?_cons_succ]

/-- Settles O25: the field of the integer is 11 of its bits, and each is a bit of a byte. -/
theorem extractFormulationsAgree : Obligations.ExtractFormulationsAgree := by
  refine fun p k => ⟨extract_toNat p k, fun b => ?_⟩
  rw [← BitVec.testBit_toNat, extract_toNat, show 2048 = 2 ^ 11 from rfl, Nat.testBit_mod_two_pow, Nat.testBit_shiftRight,
    littleEndian_testBit, decide_eq_true b.isLt, Bool.true_and]

/-- Settles O29: a field of the packed payload is the field of the integer of its ticks. -/
theorem packedTicksAreExtracted : Obligations.PackedTicksAreExtracted := extract_packTicks

@[simp] theorem unpackChannels_getElem (p : Payload) (k : Channel) : (unpackChannels p)[k] = ticksToUs (extract p k) := by
  simp [unpackChannels]

/-- The field reaches a third byte in four channels (spec/42_channel_unpacker.md R122). -/
theorem reaches_third_byte_iff : ∀ k : Channel,
    6 ≤ 11 * k.val % 8 ↔ k.val = 2 ∨ k.val = 5 ∨ k.val = 10 ∨ k.val = 13 := by decide

/-- The window reads the first two bytes of its channel, and the third where the field reaches it
(spec/42_channel_unpacker.md R121, R122). -/
theorem window_congr {p q : Payload} {k : Channel}
    (h : ∀ j : Fin 22, 11 * k.val / 8 ≤ j.val → j.val ≤ 11 * k.val / 8 + (if 6 ≤ 11 * k.val % 8 then 2 else 1) →
      p[j] = q[j]) : window p k = window q k := by
  have hk : k.val < 16 := k.isLt
  have hfirst : p[11 * k.val / 8] = q[11 * k.val / 8] := h ⟨11 * k.val / 8, by omega⟩ le_rfl (Nat.le_add_right _ _)
  have hsecond : p[11 * k.val / 8 + 1] = q[11 * k.val / 8 + 1] :=
    h ⟨11 * k.val / 8 + 1, by omega⟩ (Nat.le_add_right _ _) (by simp only; split <;> omega)
  apply BitVec.eq_of_toNat_eq
  rw [window_toNat, window_toNat]
  by_cases hthird : 6 ≤ 11 * k.val % 8
  · have hlast : p[11 * k.val / 8 + 2] = q[11 * k.val / 8 + 2] :=
      h ⟨11 * k.val / 8 + 2, by omega⟩ (Nat.le_add_right _ _) (by rw [if_pos hthird])
    rw [dif_pos hthird, dif_pos hthird, hfirst, hsecond, hlast]
  · rw [dif_neg hthird, dif_neg hthird, hfirst, hsecond]

/-- Settles O26: the bytes that agree are those of the window, and the window is all that a channel reads. -/
theorem laneReadsOnlyItsBytes : Obligations.LaneReadsOnlyItsBytes := by
  intro p q k h
  simp only [← reaches_third_byte_iff] at h
  rw [unpackChannels_getElem, unpackChannels_getElem, extract, extract, window_congr h]

/-! ### The UNPACK command -/

/-- The payload of an operand depends on its first 22 bytes only (spec/42_channel_unpacker.md R127). -/
theorem payloadOf_take (p : List Byte) : payloadOf (p.take 22) = payloadOf p := by
  simp [payloadOf, List.take_take]

/-- Too few bytes hold no payload (spec/42_channel_unpacker.md R127). -/
theorem payloadOf_of_lt {p : List Byte} (h : p.length < 22) : payloadOf p = none := dif_neg (Nat.not_le_of_lt h)

/-- Enough bytes hold one, their first 22 (spec/42_channel_unpacker.md R127). -/
theorem payloadOf_of_le {p : List Byte} (h : 22 ≤ p.length) : ∃ v, payloadOf p = some v ∧ v.toList = p.take 22 :=
  ⟨_, dif_pos h, rfl⟩

/-- UNPACK between operations refuses an operand without a payload and delivers the payload of any other. -/
theorem execUnpack_of_rest {s : State} (p : List Byte) (hc : s.cursor = none) :
    exec (.unpack p) s =
      .next ((payloadOf p).elim (s.refuse .insufficientData) fun v => (s.deliver v).succeed) := by
  have hrun : exec (.unpack p) s = _ := State.atRest_of_none hc _
  rw [hrun]
  cases payloadOf p <;> rfl

/-- The sixteen channels, each the conversion of its field of the integer (spec/42_channel_unpacker.md R129). -/
theorem unpackChannels_eq_littleEndian (v : Payload) :
    unpackChannels v = Vector.ofFn fun k : Channel =>
      BitVec.ofInt 12 (Int.tdiv ((((littleEndian v.toList >>> (11 * k.val)) % 2048 : Nat) - 992) * 5) 8 + 1500) := by
  simp only [← extract_toNat]
  rfl

/-- Settles O23: an operand has a payload from 22 bytes on, and its channels are the fields of its integer. -/
theorem unpackDecodesLittleEndianFields : Obligations.UnpackDecodesLittleEndianFields := by
  refine fun s p hc => ⟨fun hlt => ?_, fun hle => ?_⟩
  · rw [execUnpack_of_rest p hc, payloadOf_of_lt hlt]
    rfl
  · obtain ⟨v, hv, hbytes⟩ := payloadOf_of_le hle
    rw [execUnpack_of_rest p hc, hv, ← hbytes, ← unpackChannels_eq_littleEndian]
    rfl

/-- Settles O24: both operands have the same first 22 bytes, so the same payload. -/
theorem unpackIgnoresBytesAfterTheFirst22 : Obligations.UnpackIgnoresBytesAfterTheFirst22 := by
  intro s p q hc hp
  have hpayload : payloadOf (p ++ q) = payloadOf p := by rw [← payloadOf_take, List.take_left' hp]
  rw [execUnpack_of_rest _ hc, execUnpack_of_rest _ hc, hpayload]

end Sys2Proof.Machine

/-! Proofs of the exceptions family (spec/60_exceptions.md): the total commands complete. -/

namespace Sys2Proof.Machine

/-- Settles O50: each command's whole answer is known between operations. IDLE and CRC8 leave the buffer, FEED leaves its last `CAP`
bytes, SCAN drops a prefix, and CLEAR leaves nothing. -/
theorem totalCommandsAlwaysComplete : Obligations.TotalCommandsAlwaysComplete := by
  rintro s bytes i hc hcap (rfl | rfl | rfl | rfl | rfl)
  · exact ⟨_, idleWritesStatusOnly s hc, rfl, hc, hcap⟩
  · exact ⟨_, feedKeepsLastCapBytes s bytes hc, rfl, hc, length_lastBytes_cap_le _⟩
  · obtain ⟨v, d, -, hscan⟩ := scanIsThePureScan s hc hcap
    exact ⟨_, hscan, rfl, hc, (List.drop_suffix _ _).length_le.trans hcap⟩
  · exact ⟨_, clearEmptiesBufferOnly s hc, rfl, hc, Nat.zero_le _⟩
  · exact ⟨_, crc8CommandWritesCrcOut s bytes hc, rfl, hc, hcap⟩

end Sys2Proof.Machine

/-! Proofs of the reset family (spec/70_reset_and_hazards.md): what a step does with a reset event or with none, and the parameters under
every step. -/

namespace Sys2Proof.Machine

/-! ### Reset and waiting -/

/-- Settles O2: the step takes the reset event off and answers the reset table, the free draws in `CH` and `CRC_OUT`. -/
theorem resetEventGivesResetTable : Obligations.ResetEventGivesResetTable := by
  intro s rest hc ht
  refine ⟨drawChannels s.drawn, Config.freeCrc s.drawn, s.drawn + 1, ?_⟩
  rw [step_of_event hc ht, hc]
  rfl

/-- Settles O3: the case of `step` with no cursor and no event. -/
theorem noEventHoldsState : Obligations.NoEventHoldsState := fun _ => step_of_no_event

/-! ### The parameters and the host's events -/

/-- `t` has the parameters of `s` and what the host will present to `s`. -/
def State.KeepsSetting (s t : State) : Prop := t.params = s.params ∧ t.trace = s.trace

theorem State.KeepsSetting.trans {s t u : State} (hst : s.KeepsSetting t) (htu : t.KeepsSetting u) : s.KeepsSetting u :=
  ⟨htu.1.trans hst.1, htu.2.trans hst.2⟩

/-- The end of a scan writes the buffer, `CONSUMED`, `POS` and `STATUS` only (spec/41_frame_decoder.md R106). -/
theorem State.endScan_keepsSetting {s t : State} (h : s.endScan = .next t) : s.KeepsSetting t := by
  obtain ⟨_, -, -, rfl⟩ := State.endScan_next h
  exact ⟨rfl, rfl⟩

/-- A STEP writes the outcome and the cursor, or ends the scan. -/
theorem stepPosition_keepsSetting {q : Position} {s t : State} {pos : Count} (hc : s.cursor = some pos)
    (h : stepPosition q s = .next t) : s.KeepsSetting t := by
  obtain ⟨k, -, rfl⟩ | hend := stepPosition_next h hc
  · obtain ⟨hparams, -, -, -, -, -, -, htrace, -⟩ := recordPosition_frame q s
    exact ⟨hparams, htrace⟩
  · exact State.endScan_keepsSetting hend

/-- SCAN keeps the setting at its entry and through its whole loop. -/
theorem execScan_keepsSetting {s t : State} (h : exec .scan s = .next t) : s.KeepsSetting t :=
  scanLoop_keeps (P := s.KeepsSetting) (fun _ _ _ _ hs hc _ hstep => hs.trans (stepPosition_keepsSetting hc hstep))
    (fun _ _ hs hend => hs.trans (State.endScan_keepsSetting hend)) (s := s.beginScan) ⟨rfl, rfl⟩ (execScan_next h).2

/-- Every instruction keeps the setting: at a cursor it is a STEP, between operations SCAN or a write of results. -/
theorem exec_keepsSetting {i : Instr} {s t : State} (h : exec i s = .next t) : s.KeepsSetting t := by
  cases hc : s.cursor with
  | some pos =>
    obtain ⟨q, -, hstep⟩ := exec_next_of_cursor h hc
    exact stepPosition_keepsSetting hc hstep
  | none =>
    by_cases hi : i = .scan
    · subst hi
      exact execScan_keepsSetting h
    · obtain ⟨_, _, -, rfl⟩ | ⟨_, _, _, _, -, rfl⟩ := exec_next_of_rest h hc hi
      · exact ⟨rfl, rfl⟩
      · exact ⟨rfl, rfl⟩

/-- A host event keeps the setting, reset included (spec/70_reset_and_hazards.md R162; assumption 19). -/
theorem runEvent_keepsSetting {e : HostEvent} {s t : State} (h : runEvent e s = .next t) : s.KeepsSetting t := by
  cases e with
  | reset =>
    cases h
    exact ⟨rfl, rfl⟩
  | issue w =>
    simp only [runEvent] at h
    split at h
    · exact exec_keepsSetting h
    · cases h

/-- In a scan a step is a STEP or the end of the scan; between operations it takes at most one event off the trace. -/
theorem step_params {s t : State} (h : step s = .next t) : t.params = s.params := by
  cases hc : s.cursor with
  | some pos =>
    rw [step_at_cursor hc] at h
    split at h
    · exact (stepPosition_keepsSetting hc h).1
    · exact (State.endScan_keepsSetting h).1
  | none =>
    cases htrace : s.trace with
    | nil =>
      rw [step_of_no_event hc htrace] at h
      cases h
      rfl
    | cons e rest =>
      rw [step_of_event hc htrace] at h
      exact (runEvent_keepsSetting h).1

/-- Settles O53: no STEP, end of a scan, reset or command writes the parameters, and none but the step itself takes an event. -/
theorem parametersNeverChange : Obligations.ParametersNeverChange :=
  ⟨fun _ _ => step_params, fun _ _ _ => exec_keepsSetting⟩

end Sys2Proof.Machine
